-- ==== Sys2Proof/Word.lean ====
section
/-! DEFINITION. The words of the link and of the tags: 8-bit characters and 64-bit item codes. -/

namespace Sys2Proof

/-- A character of the serial link, 8 data bits (spec/00, "Physical facts"). -/
abbrev Byte := BitVec 8

/-- The 64-bit identifier carried in an item's tag (spec/00, "Terms"). Zero is not an item code (R18). -/
abbrev ItemCode := BitVec 64

/-- The code of an ASCII character on the link. -/
def asc (c : Char) : Byte := BitVec.ofNat 8 c.toNat

end Sys2Proof
end

