-- ==== Sys2Proof/Syntax.lean ====
section
/-! DEFINITION. The commands of the FK612: one constructor per row of spec/opcode_table.json.

A command is one event of the controller, whole and indivisible (spec/95). The rows whose summary says
"… is taken" carry no operand: the record they take, with its fields and its disposition, stands in the
Link Unit's holding slot (R157; assumption log, entry 3). -/

namespace Sys2Proof

/-- The three terminators of a request record, each choosing a disposition (R155). -/
inductive Terminator where
  /-- `;` perform; reply only on refusal -/
  | perform
  /-- `?` perform; always reply -/
  | reply
  /-- `=` check only -/
  | check
  deriving DecidableEq, Repr

/-- The antenna that heard a read (section 4.1). -/
inductive Antenna where
  | front
  | back
  deriving DecidableEq, Repr

/-- The antenna field as the receiver delivers it: one of the two antennas, or neither (R49). -/
inductive AntennaMark where
  | front
  | back
  | other
  deriving DecidableEq, Repr

/-- One read as the tag receiver delivers it. A field it lacks is `none` (R49). -/
structure DeliveredRead where
  /-- the receiver marks the read as damaged in delivery -/
  damaged  : Bool
  code     : Option ItemCode
  strength : Option (BitVec 8)
  antenna  : Option AntennaMark
  deriving DecidableEq, Repr

/-- The mark on an encoder count (section 4.3). -/
inductive Direction where
  | forward
  | backward
  deriving DecidableEq, Repr

/-- The two positions of the wand's mode switch (R172). -/
inductive SwitchPosition where
  | localMode
  | remote
  deriving DecidableEq, Repr

/-- The two serial rates, selected by the strap pin read at power-on (spec/00, "Physical facts"). -/
inductive BaudRate where
  | baud57600
  | baud115200
  deriving DecidableEq, Repr

/-- The commands, in the order of spec/opcode_table.json. -/
inductive Instr where
  /-- POWER_ON: supply is applied; the strap and the switch are read as they stand (R1, R172). -/
  | powerOn (strap : BaudRate) (switch : SwitchPosition)
  /-- RECORD_COMPLETION: a terminator arrives from the UART (R155, R156). -/
  | recordCompletion (t : Terminator)
  /-- RUN_BEGIN: the RB in the holding slot is taken (R2). -/
  | runBegin
  /-- LIST_ITEM: the LI in the holding slot is taken and its filing begins (R22). -/
  | listItem
  /-- LIST_ITEM_FILING_COMPLETION: the filing in flight completes (R23). -/
  | listItemFilingCompletion
  /-- RUN_CLOSE: the CR in the holding slot is taken (R4). -/
  | runClose
  /-- RUN_REOPEN: the RO in the holding slot is taken (R6). -/
  | runReopen
  /-- DISCARD_RUN: the DR in the holding slot is taken (R7). -/
  | discardRun
  /-- CURSOR_SET: the SC in the holding slot is taken (R14). -/
  | cursorSet
  /-- CIRCULATION_NOTICE: the CN in the holding slot is taken (R117, R118). -/
  | circulationNotice
  /-- ENTRY_QUERY: the QE in the holding slot is taken (R28, R29). -/
  | entryQuery
  /-- VERDICT_QUERY: the QV in the holding slot is taken (R45, R46). -/
  | verdictQuery
  /-- LOCATION_QUERY: the QH in the holding slot is taken (R47, R48). -/
  | locationQuery
  /-- OPEN_REQUEST: the OS in the holding slot is taken (R67). -/
  | openRequest
  /-- END_REQUEST: the ES in the holding slot is taken (R75). -/
  | endRequest
  /-- ABANDON_REQUEST: the AS in the holding slot is taken (R82). -/
  | abandonRequest
  /-- DORMANCY_REQUEST: the DO in the holding slot is taken (R61). -/
  | dormancyRequest
  /-- CONDITION_REQUEST: the AC in the holding slot is taken (R139). -/
  | conditionRequest
  /-- MODE_REQUEST: the AM in the holding slot is taken (R140). -/
  | modeRequest
  /-- ACKNOWLEDGE_REQUEST: the AQ in the holding slot is taken (R141). -/
  | acknowledgeRequest
  /-- EVIDENCE_MODE_REQUEST: the EM in the holding slot is taken (R151). -/
  | evidenceModeRequest
  /-- EVIDENCE_READ_REQUEST: the ER in the holding slot is taken (R152). -/
  | evidenceReadRequest
  /-- ST_STRENGTH_FLOOR: an ST of id 01 in the holding slot is taken (R59, R163). -/
  | stStrengthFloor
  /-- ST_BLEED_RATIO: an ST of id 02 in the holding slot is taken (R89, R163). -/
  | stBleedRatio
  /-- ST_ORDER_TOLERANCE: an ST of id 03 in the holding slot is taken (R92, R163). -/
  | stOrderTolerance
  /-- ST_IDLE_LIMIT: an ST of id 04 in the holding slot is taken (R73, R163). -/
  | stIdleLimit
  /-- ST_ATTENTION_MODE: an ST of id 05 in the holding slot is taken (R162, R163). -/
  | stAttentionMode
  /-- ST_ATTENTION_ENABLES: an ST of id 06 in the holding slot is taken (R162, R163). -/
  | stAttentionEnables
  /-- ST_STREAMING: an ST of id 07 in the holding slot is taken (R160, R163). -/
  | stStreaming
  /-- ST_READOUT_SELECTION: an ST of id 08 in the holding slot is taken (R163, R175). -/
  | stReadoutSelection
  /-- FETCH_REQUEST: the FE in the holding slot is taken (R161). -/
  | fetchRequest
  /-- BARRIER_REQUEST: the BA in the holding slot is taken (R164). -/
  | barrierRequest
  /-- BARRIER_COMPLETION: the waiting barrier completes (R164). -/
  | barrierCompletion
  /-- TEST_REQUEST: the TS in the holding slot is taken (R165). -/
  | testRequest
  /-- COVERAGE_REQUEST: the CV in the holding slot is taken (R166). -/
  | coverageRequest
  /-- STATUS_REQUEST: the QS in the holding slot is taken (R167). -/
  | statusRequest
  /-- FOREIGN_LIST_QUERY: the QF in the holding slot is taken (R168). -/
  | foreignListQuery
  /-- SOFT_RESET: the RS in the holding slot is taken (R169). -/
  | softReset
  /-- TAG_READ: the tag receiver delivers a read (R49 to R53). -/
  | tagRead (r : DeliveredRead)
  /-- ENCODER_COUNT: the wheel encoder delivers a count (R56 to R58). -/
  | encoderCount (d : Direction)
  /-- TRIGGER_PRESS: the trigger key goes down (R173). -/
  | triggerPress
  /-- CALL_PRESS: the CALL key goes down (R174). -/
  | callPress
  /-- MODE_SWITCH_CHANGE: the mode switch moves to a position (R172). -/
  | modeSwitchChange (p : SwitchPosition)
  /-- IDLE_EXPIRY: the idle timer expires (R74). -/
  | idleExpiry
  /-- READ_FOLD: the read at the head of the read queue is folded (R71). -/
  | readFold
  /-- HAND_OFF: FINALIZE, its folds done, hands its offers to COMMIT (R77, R78). -/
  | handOff
  /-- COMMIT: the Count Table applies the commit in flight (R93). -/
  | commit
  /-- SHELF_JOB_COMPLETION: the shelf job in flight completes (R109). -/
  | shelfJobCompletion
  /-- RUN_WIDE_JOB_COMPLETION: the run-wide job in flight completes (R112). -/
  | runWideJobCompletion
  /-- TRANSMISSION_END: the transmission of an outbound record ends (R160). -/
  | transmissionEnd
  /-- BUZZER_PATTERN_END: the pattern sounding ends (R176). -/
  | buzzerPatternEnd
  /-- UART_CHARACTER: a character other than a terminator arrives from the UART (R155). -/
  | uartCharacter (c : Byte)
  deriving DecidableEq, Repr

end Sys2Proof
end

