-- ==== Sys2Proof/Config.lean ====
section
/-! DEFINITION. The capacities and limits the spec fixes for every FK612. Nothing here is left open: the
spec leaves no value free (assumption log, entry 18). -/

namespace Sys2Proof.Config

/-- Characters of the assembly buffer (R155). -/
def bufferSize : Nat := 80
/-- Refusal replies the refusal queue holds (R156). -/
def refusalQueueSize : Nat := 4
/-- Reports the report queue holds (R159). -/
def reportQueueSize : Nat := 48
/-- Reads the read queue holds (R52). -/
def readQueueSize : Nat := 32
/-- Sightings the sighting table holds (R70). -/
def sightingTableSize : Nat := 192
/-- Entries the foreign list holds (R97). -/
def foreignListSize : Nat := 256
/-- Evidence records the Evidence Buffer holds (R143). -/
def evidenceSize : Nat := 64
/-- Patterns the buzzer's waiting list holds (R176). -/
def buzzerListSize : Nat := 4
/-- Shelf records of the Count Table (section 1.3). -/
def shelfRecords : Nat := 96
/-- Loose records of the Count Table (section 1.3). -/
def looseRecords : Nat := 8
/-- Entries returned by one QV, ER or QF at most (R45, R152, R168). -/
def pageSize : Nat := 8
/-- The overtravel margin beyond the bay width, in millimetres (R8). -/
def overtravelMargin : Nat := 150
/-- The forward travel of one rate window, in millimetres (R72). -/
def rateWindowLength : Nat := 100
/-- The largest stored value of a sighting's branch (R85). -/
def branchMax : Nat := 2 ^ 32 - 1
/-- The largest branch value a reply gives as it stands (R85). -/
def branchReportMax : Nat := 2 ^ 24 - 1
/-- The largest scale of a sighting (R85). -/
def scaleMax : Nat := 8
/-- Where a 16-bit count saturates (R49, R66, R86). -/
def count16Max : Nat := 65535
/-- Where an 8-bit count saturates (R11, R97, R156, R159). -/
def count8Max : Nat := 255
/-- Where the duration counter saturates (R135). -/
def durationMax : Nat := 16

end Sys2Proof.Config
end

