-- ==== Sys2Proof/Machine/State.lean ====
section
/-! DEFINITION. The state of the FK612: every piece of state the spec gives its eight blocks, as plain
data, and its value at reset. What the spec ties exactly to other state (the lamps, the attention lines,
the readout, the verdicts, the code index, the flags FROZEN and WATERMARK of the Evidence Buffer) is
computed from it in Flags.lean, Verdicts.lean and Panel.lean and not stored twice (assumption log,
entry 14). -/

namespace Sys2Proof.Machine

/-! ## Locations and geometry (chapter 1) -/

/-- A location: a shelf by its number, or one of the loose locations L1 to L8 (R8, R10). -/
inductive Loc where
  | shelf (t : Nat)
  | loose (i : Nat)
  deriving DecidableEq, Repr

/-- The run state (R1). -/
inductive RunState where
  | empty
  | loading
  | opened
  | closing
  | closed
  deriving DecidableEq, Repr

/-- The shape of the range and the number of expected entries, as RB gives them (R2, R8). -/
structure Geometry where
  bays   : Nat
  levels : Nat
  width  : Nat
  /-- N, the number of expected entries -/
  items  : Nat
  deriving DecidableEq, Repr

/-- The state of a location record (R11, R12). -/
inductive LocState where
  | unswept
  | sweeping
  | swept
  deriving DecidableEq, Repr

/-- The last-sweep facts: what one committed sweep leaves on its target's record (R11, R13, R78). -/
structure SweepFacts where
  accepted    : Nat
  dropped     : Nat
  acrossAisle : Nat
  partialMark : Bool
  overtravel  : Bool
  frozen      : Bool
  deriving DecidableEq, Repr

/-- A location record (R11). -/
structure LocRecord where
  state      : LocState
  sweepCount : Nat
  lastSweep  : Nat
  facts      : SweepFacts
  deriving DecidableEq, Repr

/-- The last-sweep facts of a cleared record (R11). -/
def SweepFacts.cleared : SweepFacts :=
  { accepted := 0, dropped := 0, acrossAisle := 0, partialMark := false, overtravel := false,
    frozen := false }

/-- The cleared value of a location record (R11). -/
def LocRecord.cleared : LocRecord :=
  { state := .unswept, sweepCount := 0, lastSweep := 0, facts := SweepFacts.cleared }

/-! ## The expected list and the foreign list (chapters 2, 3 and 6) -/

/-- The circulation status of an expected entry (R16). -/
inductive CircStatus where
  | available
  | onLoan
  | inTransit
  | declaredMissing
  deriving DecidableEq, Repr

/-- A standing; run standings take every value but `pending` (R16). -/
inductive Standing where
  | none
  | pending
  | inOrder
  | out
  deriving DecidableEq, Repr

/-- The RETURNED_SINCE mark (R16). -/
inductive Returned where
  | clear
  | set
  | setDuring
  deriving DecidableEq, Repr

/-- A placement record (R29, R91, R96). The position is absent for a heard or loose placement. -/
structure Placement where
  loc      : Loc
  position : Option Nat
  strength : Nat
  reads    : Nat
  sweep    : Nat
  deriving DecidableEq, Repr

/-- An expected entry (R16). -/
structure Entry where
  rank          : Nat
  code          : ItemCode
  shelf         : Nat
  watch         : Bool
  status        : CircStatus
  placement     : Option Placement
  shelfStanding : Standing
  runStanding   : Standing
  inSweep       : Bool
  lentSince     : Bool
  returned      : Returned
  deriving DecidableEq, Repr

/-- A foreign entry (R97). -/
structure ForeignEntry where
  code      : ItemCode
  placement : Placement
  sighted   : Nat
  deriving DecidableEq, Repr

/-- The load record (R19). -/
structure LoadRecord where
  nextRank  : Nat
  filed     : Nat
  prevShelf : Option Nat
  deriving DecidableEq, Repr

/-- The load record at power-on, at RB and after DR (R19). -/
def LoadRecord.start : LoadRecord := { nextRank := 1, filed := 0, prevShelf := Option.none }

/-- The Count Table (chapters 1, 2, 3 and 6). -/
structure CountTable where
  run       : RunState
  geometry  : Option Geometry
  load      : LoadRecord
  /-- the expected entries in rank order (R17) -/
  entries   : List Entry
  /-- the foreign list in the order of addition (R97) -/
  foreign   : List ForeignEntry
  overflow  : Nat
  /-- the 96 shelf records; shelf t is the t-th (section 1.3) -/
  shelves   : List LocRecord
  /-- the 8 loose records; Li is the i-th (section 1.3) -/
  loose     : List LocRecord
  cursor    : Nat
  sweepNumber : Nat
  deriving DecidableEq, Repr

/-- The Count Table of an EMPTY run (R7, R11, R14, R15, R19, R97). -/
def CountTable.cleared : CountTable :=
  { run := .empty, geometry := Option.none, load := LoadRecord.start, entries := [], foreign := [],
    overflow := 0, shelves := List.replicate Config.shelfRecords LocRecord.cleared,
    loose := List.replicate Config.looseRecords LocRecord.cleared, cursor := 0, sweepNumber := 0 }

/-! ## The Read Port (chapter 4) -/

/-- A read as stamped and held in the read queue (R51). -/
structure StampedRead where
  code     : ItemCode
  strength : BitVec 8
  antenna  : Antenna
  position : Nat
  target   : Loc
  sweep    : Nat
  deriving DecidableEq, Repr

/-- The dormancy state (R61). -/
inductive Dormancy where
  | awake
  | dormant
  deriving DecidableEq, Repr

/-- The Read Port (chapter 4). -/
structure ReadPort where
  /-- the read queue, oldest first (R52) -/
  queue    : List StampedRead
  position : Nat
  dormancy : Dormancy
  drops    : Nat
  deriving DecidableEq, Repr

/-! ## The Sweep Unit (chapters 5 and 6) -/

/-- The Sweep Unit's state, with the stage of CLOSING (R65). -/
inductive SweepPhase where
  | idle
  | opened
  | finalize
  | commit
  | order
  deriving DecidableEq, Repr

/-- The two sweep modes (section 5.2). -/
inductive SweepMode where
  | new
  | recount
  deriving DecidableEq, Repr

/-- The six outcome counts of a commit (R78, R101). -/
structure Outcomes where
  newPlacements  : Nat
  movedIn        : Nat
  keptElsewhere  : Nat
  foreign        : Nat
  foreignDropped : Nat
  heard          : Nat
  deriving DecidableEq, Repr

/-- The outcome counts before any commit (R66). -/
def Outcomes.zero : Outcomes :=
  { newPlacements := 0, movedIn := 0, keptElsewhere := 0, foreign := 0, foreignDropped := 0, heard := 0 }

/-- The open-sweep record (R66). Target, mode and bleed ratio are absent in the cleared record: the target by R66,
the mode and the bleed ratio by the model's choice (entry 26). -/
structure OpenRecord where
  number   : Nat
  target   : Option Loc
  mode     : Option SweepMode
  facts    : SweepFacts
  sighted  : Nat
  outcomes : Outcomes
  bleed    : Option Nat
  deriving DecidableEq, Repr

/-- The cleared open-sweep record of power-on and DR: number, target, counts and flags by R66, which names
neither the mode nor the bleed ratio; both are absent here (DEDUCED, unsafe: entry 26). -/
def OpenRecord.cleared : OpenRecord :=
  { number := 0, target := none, mode := none, facts := SweepFacts.cleared, sighted := 0,
    outcomes := Outcomes.zero, bleed := none }

/-- The kind of a sighting (R70). -/
inductive SightingKind where
  | listed (rank : Nat)
  | foreign
  deriving DecidableEq, Repr

/-- A sighting with its three branches and its scale (R70, R85). -/
structure Sighting where
  code   : ItemCode
  kind   : SightingKind
  reads  : Nat
  moment : Nat
  front  : Nat
  back   : Nat
  scale  : Nat
  frozen : Bool
  deriving DecidableEq, Repr

/-- An offer (R91). Its location and sweep number are those of its commit. -/
structure Offer where
  code     : ItemCode
  kind     : SightingKind
  position : Option Nat
  strength : Nat
  reads    : Nat
  deriving DecidableEq, Repr

/-- A commit as delivered at the hand-off (R78). -/
structure Commit where
  number : Nat
  target : Loc
  mode   : SweepMode
  offers : List Offer
  /-- the ranks of every listed sighting, across-aisle or not -/
  ranks  : List Nat
  facts  : SweepFacts
  deriving DecidableEq, Repr

/-- The rate window in progress (R72). -/
structure RateWindow where
  start : Nat
  count : Nat
  deriving DecidableEq, Repr

/-- The last commit: its sweep number and target (R66). -/
structure LastCommit where
  number : Nat
  target : Loc
  deriving DecidableEq, Repr

/-- The Sweep Unit (chapter 5). -/
structure SweepUnit where
  phase      : SweepPhase
  record     : OpenRecord
  /-- the sighting table in first-read order (R70) -/
  sightings  : List Sighting
  /-- the commit in flight between the hand-off and the commit event (R78) -/
  inFlight   : Option Commit
  lastCommit : Option LastCommit
  lastShelf  : Option Nat
  /-- the idle timer: stopped, or the limit in seconds it was last started with (R73; DESIGN CHOICE, safe: entry 13) -/
  idleTimer  : Option Nat
  rateWindow : Option RateWindow
  deriving DecidableEq, Repr

/-- The Sweep Unit at power-on and after DR (section 5.12). -/
def SweepUnit.cleared : SweepUnit :=
  { phase := .idle, record := OpenRecord.cleared, sightings := [], inFlight := none, lastCommit := none,
    lastShelf := none, idleTimer := none, rateWindow := none }

/-! ## The Order Unit (chapter 7) -/

/-- The job in flight (R102). -/
inductive CurrentJob where
  | idle
  | shelf (t : Nat)
  | run
  deriving DecidableEq, Repr

/-- The working piles of a walk: the row of piles, each pile's ranks from its top down, and the
predecessor recorded for each rank placed (R102, R105). -/
structure Piles where
  row   : List (List Nat)
  preds : List (Nat × Option Nat)
  deriving DecidableEq, Repr

/-- The Order Unit (R102). -/
structure OrderUnit where
  jobs      : List Nat
  current   : CurrentJob
  tolerance : Option Nat
  piles     : Piles
  deriving DecidableEq, Repr

/-- The Order Unit with no job (R102). -/
def OrderUnit.cleared : OrderUnit :=
  { jobs := [], current := .idle, tolerance := none, piles := { row := [], preds := [] } }

/-! ## The Anomaly Monitor (chapter 9) -/

/-- The six conditions, in code order (R130). -/
inductive CondCode where
  | missingHi
  | misorderHi
  | foreignHi
  | fillLo
  | rateLo
  | bleedHi
  deriving DecidableEq, Repr

/-- A condition record (R130). -/
structure Condition where
  threshold : Nat
  enabled   : Bool
  state     : Bool
  deriving DecidableEq, Repr

/-- The six condition records (R130). -/
structure Conditions where
  missingHi  : Condition
  misorderHi : Condition
  foreignHi  : Condition
  fillLo     : Condition
  rateLo     : Condition
  bleedHi    : Condition
  deriving DecidableEq, Repr

/-- The combine mode (R134). -/
inductive CombineMode where
  | any
  | all
  deriving DecidableEq, Repr

/-- The three kinds of evaluation event (R131, R137). -/
inductive EvalKind where
  | rate
  | bleed
  | shelf
  deriving DecidableEq, Repr

/-- The source record (R137). -/
structure SourceRecord where
  kind       : EvalKind
  conditions : List CondCode
  loc        : Loc
  sweep      : Nat
  deriving DecidableEq, Repr

/-- The Anomaly Monitor (chapter 9). -/
structure Monitor where
  conds    : Conditions
  combine  : CombineMode
  latched  : Bool
  /-- the duration setting D (R135) -/
  duration : Nat
  counter  : Nat
  active   : Bool
  source   : Option SourceRecord
  deriving DecidableEq, Repr

/-- A condition record at power-on (R130). -/
def Condition.start : Condition := { threshold := 0, enabled := false, state := false }

/-- The monitor at power-on (R142). -/
def Monitor.start : Monitor :=
  { conds := { missingHi := Condition.start, misorderHi := Condition.start, foreignHi := Condition.start,
               fillLo := Condition.start, rateLo := Condition.start, bleedHi := Condition.start },
    combine := .any, latched := false, duration := 0, counter := 0, active := false, source := none }

/-! ## The Evidence Buffer (chapter 10) -/

/-- The capture modes (section 10.2). -/
inductive EvidenceMode where
  | off
  | fill
  | roll
  | rollFreeze
  | armRoll
  deriving DecidableEq, Repr

/-- The phases of ROLL_FREEZE and ARM_ROLL (R147, R148); `none` in the other modes (R167). -/
inductive EvidencePhase where
  | none
  | rolling
  | freezing
  | frozen
  | armed
  | capturing
  deriving DecidableEq, Repr

/-- The Evidence Buffer (chapter 10). A record holds the fields of the stamped read it copies (R143). -/
structure EvidenceBuffer where
  /-- oldest first (R143) -/
  records   : List StampedRead
  mode      : EvidenceMode
  phase     : EvidencePhase
  watermark : Nat
  stopped   : Bool
  overrun   : Bool
  deriving DecidableEq, Repr

/-- The buffer at power-on (R153). -/
def EvidenceBuffer.start : EvidenceBuffer :=
  { records := [], mode := .off, phase := .none, watermark := 0, stopped := false, overrun := false }

/-! ## The Link Unit (chapter 11) -/

/-- The scope of a barrier (R164). -/
inductive BarrierScope where
  | engine
  | all
  deriving DecidableEq, Repr

/-- The request words of the catalogue (section 11.6). -/
inductive RequestWord where
  | RB | LI | CR | RO | DR | SC | CN | QE | QV | QH | OS | ES | AS | DO | AC | AM | AQ | EM | ER | ST | FE
  | BA | TS | CV | QS | QF | RS
  deriving DecidableEq, Repr

/-- A request with its fields as read by the Link Unit (R154, R156, R169). A letter field is held as the
code of its capital letter; an optional field left out is `none`. -/
inductive Request where
  | rb (bays levels width items : Nat)
  | li (rank code shelf status watch : Nat)
  | cr (force : Nat)
  | ro
  | dr
  | sc (shelf : Nat)
  | cn (code status : Nat)
  | qe (selector key : Nat)
  | qv (verdict start : Nat) (count : Option Nat)
  | qh (location : Nat)
  | os (target mode : Nat)
  | es
  | as
  | dorm
  | ac (condition threshold enable : Nat)
  | am (combine latch duration : Nat)
  | aq
  | em (mode watermark : Nat)
  | er (count : Option Nat)
  | st (id value : Nat)
  | fe (count : Option Nat)
  | ba (scope : BarrierScope)
  | ts (mask : Nat)
  | cv
  | qs
  | qf (start : Nat) (count : Option Nat)
  | rs
  deriving DecidableEq, Repr

/-- A complete request record in the holding slot: the request and the disposition its terminator chose. -/
structure Held where
  req  : Request
  disp : Terminator
  deriving DecidableEq, Repr

/-- The status codes of replies (R158). -/
inductive StatusCode where
  | OK | CK | FM | UK | RG | SA | BY | LC | SQ | DP | OR | NF | US | OV
  deriving DecidableEq, Repr

/-- One field of an outbound record (R154, R170): a number, a letter, an empty field, or a branch value
above 2^24 - 1, written with its GUARD mark (R85). -/
inductive Field where
  | num (n : Nat)
  | letter (c : Byte)
  | absent
  | guarded
  deriving DecidableEq, Repr

/-- A reply: the request word as it is written, the status code and the fields (R158). -/
structure Reply where
  word   : List Byte
  code   : StatusCode
  fields : List Field
  deriving DecidableEq, Repr

/-- What ended a sweep by abandonment and is told by SWA (R84). -/
inductive AbandonCause where
  | host
  | idle
  deriving DecidableEq, Repr

/-- What woke a dormant controller (R62). -/
inductive WakeCause where
  | trigger
  | call
  | record
  deriving DecidableEq, Repr

/-- The reports of the controller, with what each carries (R159). -/
inductive Report where
  /-- SWD, its fields those of the open-sweep record at ORDER completion (R80) -/
  | swd (record : OpenRecord)
  /-- SWA (R84) -/
  | swa (number : Nat) (target : Option Loc) (cause : AbandonCause) (stage : SweepPhase)
      (accepted dropped : Nat)
  /-- RND: N and the eleven verdict totals (R5) -/
  | rnd (items : Nat) (totals : List Nat)
  /-- ANM: the source record stored at the activation (R138) -/
  | anm (source : SourceRecord)
  /-- EVW (R150) -/
  | evw (count watermark : Nat) (mode : EvidenceMode) (stopped frozen overrun : Bool)
  /-- CAL (R174) -/
  | cal
  /-- WAK (R62) -/
  | wak (cause : WakeCause)
  /-- WSN (R44) -/
  | wsn (sweep rank : Nat) (code : ItemCode) (loc : Loc) (position : Option Nat) (previous : Option Loc)
  deriving DecidableEq, Repr

/-- A record on its way out: a reply (a refusal of the Link Unit's own is one too) or a report (R160). -/
inductive Outbound where
  | reply (r : Reply)
  | report (r : Report)
  deriving DecidableEq, Repr

/-- The parser's states (R155). -/
inductive Parser where
  | awaitWord
  | inWord
  | inField
  | discarding
  deriving DecidableEq, Repr

/-- The reply slot: empty, holding a reply, or reserved by an FE of the given disposition that has so far
sent `sent` reports (R158, R161). -/
inductive ReplySlot where
  | empty
  | filled (r : Reply)
  | reserved (sent : Nat) (disp : Terminator)
  deriving DecidableEq, Repr

/-- The eight link settings, in id order (R163). -/
structure Settings where
  floor      : Nat
  bleed      : Nat
  tolerance  : Nat
  idleLimit  : Nat
  attnMode   : Nat
  attnEnable : Nat
  streaming  : Nat
  readout    : Nat
  deriving DecidableEq, Repr

/-- The settings at power-on (R163). -/
def Settings.start : Settings :=
  { floor := 40, bleed := 8, tolerance := 30, idleLimit := 30, attnMode := 0, attnEnable := 0,
    streaming := 1, readout := 0 }

/-- The Link Unit (chapter 11). The CALL pending mark, owned by the wand panel, stands here beside the
report queue that clears it (R159). -/
structure LinkUnit where
  parser         : Parser
  buffer         : List Byte
  slot           : Option Held
  /-- the list item in the slot has been taken and is being filed (R22) -/
  filing         : Bool
  barrier        : Option BarrierScope
  reply          : ReplySlot
  refusals       : List Reply
  refusalsLost   : Nat
  reports        : List Report
  reportsDropped : Nat
  /-- the FE allowance (R161) -/
  allowance      : Nat
  /-- the record the transmitter is sending; none while it is free (R160) -/
  sending        : Option Outbound
  callPending    : Bool
  settings       : Settings
  /-- the serial rate the strap pin selected at power-on (spec/00, "Physical facts") -/
  baud           : BaudRate
  deriving DecidableEq, Repr

/-- The Link Unit at power-on, with the rate the strap selects (R171). -/
def LinkUnit.start (strap : BaudRate) : LinkUnit :=
  { parser := .awaitWord, buffer := [], slot := none, filing := false, barrier := none, reply := .empty,
    refusals := [], refusalsLost := 0, reports := [], reportsDropped := 0, allowance := 0, sending := none,
    callPending := false, settings := Settings.start, baud := strap }

/-! ## The Wand Panel Interface (chapter 12) -/

/-- The buzzer's four patterns (R176). -/
inductive Pattern where
  | oneShort
  | twoShort
  | threeShort
  | longTone
  deriving DecidableEq, Repr

/-- The Wand Panel Interface (chapter 12). -/
structure Panel where
  switch   : SwitchPosition
  /-- the pattern sounding, if any (R176) -/
  sounding : Option Pattern
  /-- the waiting list, oldest first (R176) -/
  waiting  : List Pattern
  deriving DecidableEq, Repr

/-! ## The whole controller -/

/-- The state of the controller, block by block, with the queue of waiting commands. -/
structure State where
  pending  : List Instr
  link     : LinkUnit
  port     : ReadPort
  sweep    : SweepUnit
  table    : CountTable
  order    : OrderUnit
  monitor  : Monitor
  evidence : EvidenceBuffer
  panel    : Panel
  deriving DecidableEq, Repr

/-- Every block at its power-on value, with the strap and the switch as read (R1, R32, R64, R102, R142,
R153, R171, R177, section 5.12). -/
def State.powerOn (strap : BaudRate) (switch : SwitchPosition) (pending : List Instr) : State :=
  { pending := pending
    link := LinkUnit.start strap
    port := { queue := [], position := 0, dormancy := .awake, drops := 0 }
    sweep := SweepUnit.cleared
    table := CountTable.cleared
    order := OrderUnit.cleared
    monitor := Monitor.start
    evidence := EvidenceBuffer.start
    panel := { switch := switch, sounding := none, waiting := [] } }

/-- The controller right after power-on. The mode switch's position and the strap are what the supply
finds them to be (R172); here REMOTE and 57,600 baud (DESIGN CHOICE, unsafe: entries 5 and 6). -/
def State.reset : State := State.powerOn .baud57600 .remote []

/-- The faults that stop the controller: none. The spec refuses, drops and counts, and goes on; it names
no fault, so the type is empty, no meaning can end in one, and nothing rests on one (safe). -/
inductive Fault : Type
  deriving DecidableEq, Repr

/-- The refusals of the model. -/
inductive Refusal where
  /-- Answered only by an arm of exec that has no meaning yet; no arm does (safe: the model stops). -/
  | notModelled (mnemonic : String)
  deriving DecidableEq, Repr

end Sys2Proof.Machine
end

