-- ==== Sys2Proof/Machine/Flags.lean ====
section
/-! DEFINITION. The flags and lines that follow other state exactly: the attention conditions and lines
(R162), the evidence flags FROZEN and WATERMARK (R147, R150), the lamps (R176) and the receiver's power. -/

namespace Sys2Proof.Machine

/-- REPORTS_WAITING is true while the report queue is not empty (R162). -/
def LinkUnit.reportsWaiting (l : LinkUnit) : Bool := !l.reports.isEmpty

/-- READY is true while the holding slot is empty (R157, R162). -/
def LinkUnit.ready (l : LinkUnit) : Bool := l.slot.isNone

/-- The enables value enables REPORTS_WAITING: 1 or 3 (R162). -/
def Settings.reportsEnabled (s : Settings) : Bool := s.attnEnable == 1 || s.attnEnable == 3

/-- The enables value enables READY: 2 or 3 (R162). -/
def Settings.readyEnabled (s : Settings) : Bool := s.attnEnable == 2 || s.attnEnable == 3

/-- The ATTN-A line (R162). -/
def LinkUnit.attnA (l : LinkUnit) : Bool :=
  match l.settings.attnMode with
  | 1 => (l.settings.reportsEnabled && l.reportsWaiting) || (l.settings.readyEnabled && l.ready)
  | 2 => l.settings.reportsEnabled && l.reportsWaiting
  | _ => false

/-- The ATTN-B line (R162). -/
def LinkUnit.attnB (l : LinkUnit) : Bool :=
  match l.settings.attnMode with
  | 2 => l.settings.readyEnabled && l.ready
  | _ => false

/-- Streaming is in effect while the setting is 1 or a barrier of scope ALL is waiting (R160). -/
def LinkUnit.streamingInEffect (l : LinkUnit) : Bool :=
  l.settings.streaming == 1 || l.barrier == some .all

/-- The FROZEN flag: FROZEN is the phase in which it is set (R147). -/
def EvidenceBuffer.frozen (e : EvidenceBuffer) : Bool := e.phase == .frozen

/-- The WATERMARK flag is set exactly when the count exceeds the watermark (R150). -/
def EvidenceBuffer.aboveWatermark (e : EvidenceBuffer) : Bool := e.watermark < e.records.length

/-- The green lamp is lit while the Sweep Unit is OPEN or CLOSING (R176). -/
def State.greenLamp (s : State) : Bool := s.sweep.phase != .idle

/-- The red lamp is lit while the anomaly is active (R176). -/
def State.redLamp (s : State) : Bool := s.monitor.active

/-- The tag receiver is powered exactly while the Read Port is AWAKE (R61, R62, R64). -/
def ReadPort.receiverPowered (p : ReadPort) : Bool := p.dormancy == .awake

end Sys2Proof.Machine
end

