-- ==== Sys2Proof/Machine/Operands.lean ====
section
/-! DEFINITION. The operands of the link: the characters of a record, the reading of request fields and
the catalogue of requests (R154 to R156, section 11.6), the codes the controller writes for its states
and modes, and the text of its outbound records (R154, R158, R159). -/

namespace Sys2Proof.Machine

/-! ## Saturating and clamping (spec/00, "Conventions") -/

/-- A count that saturates at `top`, incremented once. -/
def satInc (top n : Nat) : Nat := if n < top then n + 1 else top

/-- A value clamped to the nearer end of `lo` to `hi`. -/
def clamp (lo hi n : Nat) : Nat := if n < lo then lo else if hi < n then hi else n

/-! ## Characters -/

/-- The terminator a character is, if it is one (R155). -/
def terminatorOf (c : Byte) : Option Terminator :=
  if c = asc ';' then some .perform
  else if c = asc '?' then some .reply
  else if c = asc '=' then some .check
  else none

/-- The character of a terminator (R155). -/
def terminatorChar : Terminator → Byte
  | .perform => asc ';'
  | .reply => asc '?'
  | .check => asc '='

/-- A letter, in either case. -/
def isLetter (c : Byte) : Bool :=
  (65 ≤ c.toNat && c.toNat ≤ 90) || (97 ≤ c.toNat && c.toNat ≤ 122)

/-- A decimal digit. -/
def isDigit (c : Byte) : Bool := 48 ≤ c.toNat && c.toNat ≤ 57

/-- Carriage return or line feed. -/
def isCrLf (c : Byte) : Bool := c.toNat = 13 || c.toNat = 10

/-- The capital of a letter; any other character as it stands. -/
def upper (c : Byte) : Byte := if 97 ≤ c.toNat && c.toNat ≤ 122 then c - 32 else c

/-- The value of a hexadecimal digit, in either case (R154). -/
def hexValue (c : Byte) : Option Nat :=
  let n := (upper c).toNat
  if 48 ≤ n && n ≤ 57 then some (n - 48)
  else if 65 ≤ n && n ≤ 70 then some (n - 55)
  else none

/-- The number a row of hexadecimal digits writes, added to the value read so far (R154). -/
def readHexFrom (acc : Nat) : List Byte → Option Nat
  | [] => some acc
  | c :: cs =>
    match hexValue c with
    | some v => readHexFrom (acc * 16 + v) cs
    | none => none

/-! ## Reading the fields of a request (R154, R156) -/

/-- The kind of a request field: a number of at most `digits` digits, or one letter of those named. -/
inductive FieldKind where
  | hex (digits : Nat)
  | letter (allowed : List Char)
  deriving DecidableEq, Repr

/-- A field of the catalogue: its kind, and whether the request may leave it out. -/
structure FieldSpec where
  kind     : FieldKind
  optional : Bool
  deriving DecidableEq, Repr

/-- A required number of at most `digits` digits. -/
def FieldSpec.req (digits : Nat) : FieldSpec := { kind := .hex digits, optional := false }
/-- An optional number of at most `digits` digits. -/
def FieldSpec.opt (digits : Nat) : FieldSpec := { kind := .hex digits, optional := true }
/-- A required letter. -/
def FieldSpec.one (allowed : List Char) : FieldSpec := { kind := .letter allowed, optional := false }

/-- The value of a field that is present: a number, or the code of a capital letter. -/
def readField : FieldKind → List Byte → Option Nat
  | .hex digits, cs => if cs.length ≤ digits then readHexFrom 0 cs else none
  | .letter allowed, [c] => if allowed.any (fun a => asc a == upper c) then some (upper c).toNat else none
  | .letter _, _ => none

/-- The values of a request's fields, against the fields the request carries: an absent field is accepted
only where it is optional, and no field may stand beyond those the request carries (R154, R156). -/
def readFields : List FieldSpec → List (List Byte) → Option (List (Option Nat))
  | [], [] => some []
  | [], _ :: _ => none
  | k :: ks, [] => if k.optional then (readFields ks []).map (none :: ·) else none
  | k :: ks, f :: fs =>
    if f.isEmpty then
      if k.optional then (readFields ks fs).map (none :: ·) else none
    else
      match readField k.kind f with
      | some v => (readFields ks fs).map (some v :: ·)
      | none => none

/-- The catalogue of section 11.6: the fields of each request, with the digits R154 allows each kind. The
key of a QE is a rank or a code as its selector says (R28). R154 names no kind for RB's bays and levels; they
are read as numbers of at most two digits (DEDUCED, unsafe: entry 23). -/
def RequestWord.fields (first : List Byte) : RequestWord → List FieldSpec
  | .RB => [.req 2, .req 2, .req 3, .req 3]
  | .LI => [.req 3, .req 16, .req 2, .req 2, .req 2]
  | .CR => [.req 2]
  | .RO => []
  | .DR => []
  | .SC => [.req 2]
  | .CN => [.req 16, .req 2]
  | .QE => [.one ['R', 'C'], if first.map upper = [asc 'R'] then .req 3 else .req 16]
  | .QV => [.req 2, .req 3, .opt 4]
  | .QH => [.req 2]
  | .OS => [.req 2, .one ['N', 'R']]
  | .ES => []
  | .AS => []
  | .DO => []
  | .AC => [.req 2, .req 4, .req 2]
  | .AM => [.req 2, .req 2, .req 4]
  | .AQ => []
  | .EM => [.req 2, .req 4]
  | .ER => [.opt 4]
  | .ST => [.req 2, .req 4]
  | .FE => [.opt 4]
  | .BA => [.one ['E', 'A']]
  | .TS => [.req 2]
  | .CV => []
  | .QS => []
  | .QF => [.req 3, .opt 4]
  | .RS => []

/-- The two letters of a request word. -/
def RequestWord.text : RequestWord → List Byte
  | .RB => [asc 'R', asc 'B'] | .LI => [asc 'L', asc 'I'] | .CR => [asc 'C', asc 'R']
  | .RO => [asc 'R', asc 'O'] | .DR => [asc 'D', asc 'R'] | .SC => [asc 'S', asc 'C']
  | .CN => [asc 'C', asc 'N'] | .QE => [asc 'Q', asc 'E'] | .QV => [asc 'Q', asc 'V']
  | .QH => [asc 'Q', asc 'H'] | .OS => [asc 'O', asc 'S'] | .ES => [asc 'E', asc 'S']
  | .AS => [asc 'A', asc 'S'] | .DO => [asc 'D', asc 'O'] | .AC => [asc 'A', asc 'C']
  | .AM => [asc 'A', asc 'M'] | .AQ => [asc 'A', asc 'Q'] | .EM => [asc 'E', asc 'M']
  | .ER => [asc 'E', asc 'R'] | .ST => [asc 'S', asc 'T'] | .FE => [asc 'F', asc 'E']
  | .BA => [asc 'B', asc 'A'] | .TS => [asc 'T', asc 'S'] | .CV => [asc 'C', asc 'V']
  | .QS => [asc 'Q', asc 'S'] | .QF => [asc 'Q', asc 'F'] | .RS => [asc 'R', asc 'S']

/-- The catalogue's words, in its order (section 11.6). -/
def catalogue : List RequestWord :=
  [.RB, .LI, .CR, .RO, .DR, .SC, .CN, .QE, .QV, .QH, .OS, .ES, .AS, .DO, .AC, .AM, .AQ, .EM, .ER, .ST,
   .FE, .BA, .TS, .CV, .QS, .QF, .RS]

/-- The request a word names, matched in either case (R156). -/
def requestNamed (word : List Byte) : Option RequestWord :=
  catalogue.find? (fun w => w.text == word.map upper)

/-- The scope a letter names (R164). -/
def scopeOfLetter (n : Nat) : Option BarrierScope :=
  if n = (asc 'E').toNat then some .engine
  else if n = (asc 'A').toNat then some .all
  else none

/-- The request made of a word and the values of its fields. -/
def buildRequest : RequestWord → List (Option Nat) → Option Request
  | .RB, [some b, some v, some w, some n] => some (.rb b v w n)
  | .LI, [some r, some c, some t, some s, some w] => some (.li r c t s w)
  | .CR, [some f] => some (.cr f)
  | .RO, [] => some .ro
  | .DR, [] => some .dr
  | .SC, [some t] => some (.sc t)
  | .CN, [some c, some s] => some (.cn c s)
  | .QE, [some l, some k] => some (.qe l k)
  | .QV, [some v, some r, n] => some (.qv v r n)
  | .QH, [some l] => some (.qh l)
  | .OS, [some t, some m] => some (.os t m)
  | .ES, [] => some .es
  | .AS, [] => some .as
  | .DO, [] => some .dorm
  | .AC, [some c, some t, some e] => some (.ac c t e)
  | .AM, [some c, some l, some d] => some (.am c l d)
  | .AQ, [] => some .aq
  | .EM, [some m, some w] => some (.em m w)
  | .ER, [n] => some (.er n)
  | .ST, [some i, some v] => some (.st i v)
  | .FE, [n] => some (.fe n)
  | .BA, [some l] => (scopeOfLetter l).map .ba
  | .TS, [some m] => some (.ts m)
  | .CV, [] => some .cv
  | .QS, [] => some .qs
  | .QF, [some i, n] => some (.qf i n)
  | .RS, [] => some .rs
  | _, _ => none

/-- A text cut at its commas: one piece more than it has commas. -/
def splitFields : List Byte → List (List Byte)
  | [] => [[]]
  | c :: cs =>
    if c = asc ',' then [] :: splitFields cs
    else
      match splitFields cs with
      | [] => [[c]]
      | f :: fs => (c :: f) :: fs

/-- The fields of a record's text after its word, each introduced by a comma (section 11.2). -/
def recordFields : List Byte → List (List Byte)
  | [] => []
  | _ :: cs => splitFields cs

/-- What the form checks of R156 make of a record: unknown (UK), malformed (FM), or a request. -/
inductive ReadRecord where
  | unknown
  | malformed
  | request (r : Request)
  deriving DecidableEq, Repr

/-- Steps 3 and 4 of R156, on the text of a complete record without its terminator. -/
def readRecord (text : List Byte) : ReadRecord :=
  match requestNamed (text.take 2) with
  | none => .unknown
  | some w =>
    let fs := recordFields (text.drop 2)
    match readFields (w.fields (fs.headD [])) fs with
    | none => .malformed
    | some vs =>
      match buildRequest w vs with
      | none => .malformed
      | some r => .request r

/-- The request word of a request. -/
def Request.word : Request → RequestWord
  | .rb .. => .RB | .li .. => .LI | .cr .. => .CR | .ro => .RO | .dr => .DR | .sc .. => .SC
  | .cn .. => .CN | .qe .. => .QE | .qv .. => .QV | .qh .. => .QH | .os .. => .OS | .es => .ES
  | .as => .AS | .dorm => .DO | .ac .. => .AC | .am .. => .AM | .aq => .AQ | .em .. => .EM
  | .er .. => .ER | .st .. => .ST | .fe .. => .FE | .ba .. => .BA | .ts .. => .TS | .cv => .CV
  | .qs => .QS | .qf .. => .QF | .rs => .RS

/-! ## The codes of fields -/

/-- The status of a circulation status code (R16). -/
def statusOfCode : Nat → Option CircStatus
  | 0 => some .available
  | 1 => some .onLoan
  | 2 => some .inTransit
  | 3 => some .declaredMissing
  | _ => none

/-- The circulation status code (R16). -/
def CircStatus.code : CircStatus → Nat
  | .available => 0
  | .onLoan => 1
  | .inTransit => 2
  | .declaredMissing => 3

/-- The sweep mode a letter names (R67, R154). -/
def modeOfLetter (n : Nat) : Option SweepMode :=
  if n = (asc 'N').toNat then some .new
  else if n = (asc 'R').toNat then some .recount
  else none

/-- The capture mode a code names (section 10.2). -/
def evidenceModeOfCode : Nat → Option EvidenceMode
  | 0 => some .off
  | 1 => some .fill
  | 2 => some .roll
  | 3 => some .rollFreeze
  | 4 => some .armRoll
  | _ => none

/-- The code of a capture mode (section 10.2). -/
def EvidenceMode.code : EvidenceMode → Nat
  | .off => 0
  | .fill => 1
  | .roll => 2
  | .rollFreeze => 3
  | .armRoll => 4

/-- The code of a phase in the status summary (R167). -/
def EvidencePhase.code : EvidencePhase → Nat
  | .none => 0
  | .rolling => 1
  | .freezing => 2
  | .frozen => 3
  | .armed => 4
  | .capturing => 5

/-- The code of a run state (R154). -/
def RunState.code : RunState → Nat
  | .empty => 0
  | .loading => 1
  | .opened => 2
  | .closing => 3
  | .closed => 4

/-- The code of a Sweep Unit state (R154). -/
def SweepPhase.code : SweepPhase → Nat
  | .idle => 0
  | .opened => 1
  | .finalize => 2
  | .commit => 3
  | .order => 4

/-- The code of a location state (R154). -/
def LocState.code : LocState → Nat
  | .unswept => 0
  | .sweeping => 1
  | .swept => 2

/-- The code of a standing (R154). -/
def Standing.code : Standing → Nat
  | .none => 0
  | .pending => 1
  | .inOrder => 2
  | .out => 3

/-- The code of a RETURNED_SINCE mark (R154). -/
def Returned.code : Returned → Nat
  | .clear => 0
  | .set => 1
  | .setDuring => 2

/-- The number of a location on the link: a shelf's own, 81 to 88 (hexadecimal) for L1 to L8 (R154). -/
def Loc.number : Loc → Nat
  | .shelf t => t
  | .loose i => 128 + i

/-- The six conditions in code order (R130). -/
def CondCode.all : List CondCode := [.missingHi, .misorderHi, .foreignHi, .fillLo, .rateLo, .bleedHi]

/-- The code of a condition (R130). -/
def CondCode.code : CondCode → Nat
  | .missingHi => 1
  | .misorderHi => 2
  | .foreignHi => 3
  | .fillLo => 4
  | .rateLo => 5
  | .bleedHi => 6

/-- The condition a code names (R139). -/
def condOfCode (n : Nat) : Option CondCode := CondCode.all.find? (fun c => c.code == n)

/-- A set of conditions as one number: the sum of 2 raised to each code less one (R159). -/
def conditionSet (cs : List CondCode) : Nat := (cs.map (fun c => 2 ^ (c.code - 1))).sum

/-! ## Fields of outbound records (R154, R170) -/

/-- A flag or mark: 1 for set or present, 0 for clear or absent. -/
def Field.flag (b : Bool) : Field := .num (if b then 1 else 0)

/-- A number that may be absent. -/
def Field.opt : Option Nat → Field
  | some n => .num n
  | none => .absent

/-- A location. -/
def Field.loc (l : Loc) : Field := .num l.number

/-- A location that may be absent. -/
def Field.locOpt : Option Loc → Field
  | some l => .loc l
  | none => .absent

/-- An item code. -/
def Field.code (c : ItemCode) : Field := .num c.toNat

/-- A branch value: as it stands up to 2^24 - 1, above it with the GUARD mark (R85). -/
def Field.branch (n : Nat) : Field := if n ≤ Config.branchReportMax then .num n else .guarded

/-- A sweep mode, N or R. -/
def Field.mode : SweepMode → Field
  | .new => .letter (asc 'N')
  | .recount => .letter (asc 'R')

/-- An antenna, F or B. -/
def Field.antenna : Antenna → Field
  | .front => .letter (asc 'F')
  | .back => .letter (asc 'B')

/-- An evaluation kind, R, B or S (R159). -/
def Field.kind : EvalKind → Field
  | .rate => .letter (asc 'R')
  | .bleed => .letter (asc 'B')
  | .shelf => .letter (asc 'S')

/-- Y or N. -/
def Field.yesNo (b : Bool) : Field := .letter (if b then asc 'Y' else asc 'N')

/-- A composite value that is absent: one empty field for each of its parts (R170). -/
def Field.absents (n : Nat) : List Field := List.replicate n .absent

/-- The four fields of a source record (R138, R141). -/
def SourceRecord.fields (r : SourceRecord) : List Field :=
  [.kind r.kind, .num (conditionSet r.conditions), .loc r.loc, .num r.sweep]

/-- A placement as QE and QF write it: location, position, E, sweep number, reads (R168, R170). -/
def Placement.fields (p : Placement) : List Field :=
  [.loc p.loc, .opt p.position, .num p.strength, .num p.sweep, .num p.reads]

/-- The last-sweep facts of a location as QH writes them (R48, R170). -/
def SweepFacts.fields (f : SweepFacts) : List Field :=
  [.num f.accepted, .num f.dropped, .num f.acrossAisle, .flag f.partialMark, .flag f.overtravel,
   .flag f.frozen]

/-- The fields of an evidence record in the ER reply (section 11.6). -/
def StampedRead.fields (r : StampedRead) : List Field :=
  [.code r.code, .num r.strength.toNat, .antenna r.antenna, .num r.position, .num r.sweep, .loc r.target]

/-- The fields of a report, in order (R159). -/
def Report.fields : Report → List Field
  | .swd r =>
    [.num r.number, .locOpt r.target, .num r.sighted, .num r.outcomes.newPlacements,
     .num r.outcomes.movedIn, .num r.outcomes.keptElsewhere, .num r.outcomes.foreign,
     .num r.outcomes.foreignDropped, .num r.facts.acrossAisle, .num r.outcomes.heard,
     .num r.facts.accepted, .num r.facts.dropped, .flag r.facts.partialMark, .flag r.facts.overtravel,
     .flag r.facts.frozen]
  | .swa number target cause stage accepted dropped =>
    [.num number, .locOpt target,
     .letter (match cause with | .host => asc 'H' | .idle => asc 'I'),
     .num stage.code, .num accepted, .num dropped]
  | .rnd items totals => .num items :: totals.map .num
  | .anm source => source.fields
  | .evw count watermark mode stopped frozen overrun =>
    [.num count, .num watermark, .num mode.code, .flag stopped, .flag frozen, .flag overrun]
  | .cal => []
  | .wak cause => [.letter (match cause with | .trigger => asc 'T' | .call => asc 'C' | .record => asc 'R')]
  | .wsn sweep rank code loc position previous =>
    [.num sweep, .num rank, .code code, .loc loc, .opt position, .locOpt previous]

/-- The report word (R159). -/
def Report.word : Report → List Byte
  | .swd .. => [asc 'S', asc 'W', asc 'D']
  | .swa .. => [asc 'S', asc 'W', asc 'A']
  | .rnd .. => [asc 'R', asc 'N', asc 'D']
  | .anm .. => [asc 'A', asc 'N', asc 'M']
  | .evw .. => [asc 'E', asc 'V', asc 'W']
  | .cal => [asc 'C', asc 'A', asc 'L']
  | .wak .. => [asc 'W', asc 'A', asc 'K']
  | .wsn .. => [asc 'W', asc 'S', asc 'N']

/-- The two letters of a status code (R158). -/
def StatusCode.text : StatusCode → List Byte
  | .OK => [asc 'O', asc 'K'] | .CK => [asc 'C', asc 'K'] | .FM => [asc 'F', asc 'M']
  | .UK => [asc 'U', asc 'K'] | .RG => [asc 'R', asc 'G'] | .SA => [asc 'S', asc 'A']
  | .BY => [asc 'B', asc 'Y'] | .LC => [asc 'L', asc 'C'] | .SQ => [asc 'S', asc 'Q']
  | .DP => [asc 'D', asc 'P'] | .OR => [asc 'O', asc 'R'] | .NF => [asc 'N', asc 'F']
  | .US => [asc 'U', asc 'S'] | .OV => [asc 'O', asc 'V']

/-! ## The text of outbound records -/

/-- A hexadecimal digit as the controller writes it, in capitals (R154). -/
def hexDigit (n : Nat) : Byte := BitVec.ofNat 8 (if n < 10 then 48 + n else 55 + n)

/-- The hexadecimal digits of a number, most significant first, put before `tail`; `fuel` digits at most. -/
def hexDigitsOnto : Nat → Nat → List Byte → List Byte
  | 0, _, tail => tail
  | fuel + 1, n, tail =>
    if n < 16 then hexDigit n :: tail else hexDigitsOnto fuel (n / 16) (hexDigit (n % 16) :: tail)

/-- A number in capital hexadecimal with no leading zeros, zero as 0 (R154). A number n has at most n
digits and a digit more, so the fuel is enough. -/
def hexText (n : Nat) : List Byte := hexDigitsOnto (n.log2 + 1) n []

/-- The text of a field (R154, R170). -/
def Field.text : Field → List Byte
  | .num n => hexText n
  | .letter c => [c]
  | .absent => []
  | .guarded => [asc 'F', asc 'F', asc 'F', asc 'F', asc 'F', asc 'F', asc 'G']

/-- Fields, each introduced by a comma. -/
def fieldsText (fs : List Field) : List Byte := fs.flatMap (fun f => asc ',' :: f.text)

/-- CR LF, the end of every outbound record. -/
def crLf : List Byte := [13, 10]

/-- The characters of an outbound record (R158, R159). -/
def Outbound.text : Outbound → List Byte
  | .reply r => asc '*' :: r.word ++ asc ',' :: r.code.text ++ fieldsText r.fields ++ crLf
  | .report r => asc '!' :: r.word ++ fieldsText r.fields ++ crLf

end Sys2Proof.Machine
end

