-- ==== Sys2Proof/Machine/Geometry.lean ====
section
/-! DEFINITION. Geometry, locations, location records and the cursor's search (chapter 1). -/

namespace Sys2Proof.Machine

/-- The shelf count S = B × V (R8). -/
def Geometry.shelfCount (g : Geometry) : Nat := g.bays * g.levels

/-- The largest position P_max = W + 150 mm (R8). -/
def Geometry.pMax (g : Geometry) : Nat := g.width + Config.overtravelMargin

/-- The bay of shelf t (R8). -/
def Geometry.bay (g : Geometry) (t : Nat) : Nat := (t - 1) / g.levels + 1

/-- The level of shelf t (R8). -/
def Geometry.level (g : Geometry) (t : Nat) : Nat := (t - 1) % g.levels + 1

/-- Shelves t and u are neighbours: next to one another in a bay or on a level, both within the geometry (R9). -/
def Geometry.neighbours (g : Geometry) (t u : Nat) : Bool :=
  1 ≤ t && t ≤ g.shelfCount && 1 ≤ u && u ≤ g.shelfCount &&
  ((g.bay t == g.bay u && (g.level t + 1 == g.level u || g.level u + 1 == g.level t)) ||
   (g.level t == g.level u && (g.bay t + 1 == g.bay u || g.bay u + 1 == g.bay t)))

/-- S, which is 0 while there is no geometry, in the QS reply too: section 1.2 says so, against the word
"absent" in the chapter's table of reset values (DEDUCED, unsafe: entry 24). -/
def CountTable.shelfCount (c : CountTable) : Nat :=
  match c.geometry with
  | some g => g.shelfCount
  | none => 0

/-- P_max, absent while there is no geometry (section 1.2). -/
def CountTable.pMax (c : CountTable) : Option Nat := c.geometry.map Geometry.pMax

/-- N, absent while there is no run (R17). -/
def CountTable.items (c : CountTable) : Option Nat := c.geometry.map Geometry.items

/-- A shelf number of the run, 1 to S. -/
def CountTable.isShelf (c : CountTable) (t : Nat) : Bool := 1 ≤ t && t ≤ c.shelfCount

/-- The location a number names on the link: a shelf 1 to S, or 81 to 88 hexadecimal for L1 to L8 (R154). -/
def CountTable.locOfNumber (c : CountTable) (n : Nat) : Option Loc :=
  if c.isShelf n then some (.shelf n)
  else if 129 ≤ n && n ≤ 136 then some (.loose (n - 128))
  else none

/-- The record of a location (section 1.3); a number with no record reads as cleared. -/
def CountTable.recordAt (c : CountTable) : Loc → LocRecord
  | .shelf 0 => LocRecord.cleared
  | .shelf (t + 1) => c.shelves.getD t LocRecord.cleared
  | .loose 0 => LocRecord.cleared
  | .loose (i + 1) => c.loose.getD i LocRecord.cleared

/-- The table with the record of a location replaced. -/
def CountTable.setRecord (c : CountTable) (l : Loc) (r : LocRecord) : CountTable :=
  match l with
  | .shelf 0 => c
  | .shelf (t + 1) => { c with shelves := c.shelves.set t r }
  | .loose 0 => c
  | .loose (i + 1) => { c with loose := c.loose.set i r }

/-- The sweep count of shelf t. -/
def CountTable.sweepCount (c : CountTable) (t : Nat) : Nat := (c.recordAt (.shelf t)).sweepCount

/-- The shelf numbers 1 to S. -/
def CountTable.shelfNumbers (c : CountTable) : List Nat := (List.range c.shelfCount).map (· + 1)

/-- The lowest-numbered shelf of sweep count 0, if any (R4, R166). -/
def CountTable.lowestUnswept (c : CountTable) : Option Nat :=
  c.shelfNumbers.find? (fun t => c.sweepCount t == 0)

/-- The cursor after a commit on shelf t: the first shelf after t of sweep count 0, else the first from
shelf 1, else 0 (R13). -/
def CountTable.nextCursor (c : CountTable) (t : Nat) : Nat :=
  match c.shelfNumbers.find? (fun u => t < u && c.sweepCount u == 0) with
  | some u => u
  | none => c.lowestUnswept.getD 0

end Sys2Proof.Machine
end

