-- ==== Sys2Proof/Machine/Verdicts.lean ====
section
/-! DEFINITION. Lookups (section 2.3), verdicts, marks, run totals and location counts (chapter 3): all
of them derived from the Count Table at the event that asks for them. -/

namespace Sys2Proof.Machine

/-! ## Lookups -/

/-- The lookup by rank: ranks 1 to the filed count (R25). -/
def CountTable.byRank (c : CountTable) : Nat → Option Entry
  | 0 => none
  | r + 1 => c.entries[r]?

/-- The expected entry holding a code (R27). -/
def CountTable.byCode (c : CountTable) (code : ItemCode) : Option Entry :=
  c.entries.find? (fun e => e.code == code)

/-- The entries expected on shelf t, in rank order (R26). -/
def CountTable.expectedOn (c : CountTable) (t : Nat) : List Entry :=
  c.entries.filter (fun e => e.shelf == t)

/-! ## Verdicts -/

/-- The eleven verdicts, in code order (R38). -/
inductive Verdict where
  | inPlace
  | shifted
  | misordered
  | pending
  | heard
  | loose
  | awaitingShelving
  | accounted
  | missing
  | stillMissing
  | notCounted
  deriving DecidableEq, Repr

/-- The verdicts in code order (R38). -/
def Verdict.all : List Verdict :=
  [.inPlace, .shifted, .misordered, .pending, .heard, .loose, .awaitingShelving, .accounted, .missing,
   .stillMissing, .notCounted]

/-- The code of a verdict (R38). -/
def Verdict.code : Verdict → Nat
  | .inPlace => 0
  | .shifted => 1
  | .misordered => 2
  | .pending => 3
  | .heard => 4
  | .loose => 5
  | .awaitingShelving => 6
  | .accounted => 7
  | .missing => 8
  | .stillMissing => 9
  | .notCounted => 10

/-- The verdict a code names (R45). -/
def verdictOfCode (n : Nat) : Option Verdict := Verdict.all[n]?

/-- The standing in use: run standing in CLOSED, shelf standing otherwise (R34). -/
def Entry.standingInUse (run : RunState) (e : Entry) : Standing :=
  if run = .closed then e.runStanding else e.shelfStanding

/-- The verdict of a placed entry under the standing in use (R35). -/
def placedVerdict (standing : Standing) (expected : Nat) (p : Placement) : Verdict :=
  match p.loc, p.position with
  | .loose _, _ => .loose
  | .shelf _, none => .heard
  | .shelf t, some _ =>
    match standing with
    | .inOrder => if t = expected then .inPlace else .shifted
    | .out => .misordered
    | .pending => .pending
    | .none => .pending

/-- The verdict of an unplaced entry, from its status, its RETURNED_SINCE mark and the sweep count of its
expected shelf (R36). -/
def unplacedVerdict (status : CircStatus) (returned : Returned) (sweepCount : Nat) : Verdict :=
  match status with
  | .onLoan => .accounted
  | .inTransit => .accounted
  | .available =>
    match returned with
    | .set => .awaitingShelving
    | .setDuring => .awaitingShelving
    | .clear => if 1 ≤ sweepCount then .missing else .notCounted
  | .declaredMissing => if 1 ≤ sweepCount then .stillMissing else .notCounted

/-- The verdict an entry's fields and its shelf's sweep count give in a sealed run (R35, R36). -/
def CountTable.derivedVerdict (c : CountTable) (e : Entry) : Verdict :=
  match e.placement with
  | some p => placedVerdict (e.standingInUse c.run) e.shelf p
  | none => unplacedVerdict e.status e.returned (c.sweepCount e.shelf)

/-- Entries carry verdicts in OPEN, CLOSING and CLOSED (R33). -/
def RunState.hasVerdicts : RunState → Bool
  | .empty => false
  | .loading => false
  | .opened => true
  | .closing => true
  | .closed => true

/-- The verdict of an entry, absent in EMPTY and LOADING (R33). -/
def CountTable.verdict (c : CountTable) (e : Entry) : Option Verdict :=
  if c.run.hasVerdicts then some (c.derivedVerdict e) else none

/-- The library system holds the item as out: ON_LOAN or IN_TRANSIT. -/
def CircStatus.isOut : CircStatus → Bool
  | .available => false
  | .onLoan => true
  | .inTransit => true
  | .declaredMissing => false

/-- The CONFLICT mark (R37). -/
def Entry.conflict (e : Entry) : Bool := e.placement.isSome && e.status.isOut && !e.lentSince

/-- The RECOVERED mark (R37). -/
def Entry.recovered (e : Entry) : Bool := e.placement.isSome && e.status == .declaredMissing

/-! ## Totals and counts -/

/-- The number of expected entries holding a verdict (R38). -/
def CountTable.total (c : CountTable) (v : Verdict) : Nat :=
  c.entries.countP (fun e => c.verdict e == some v)

/-- The eleven verdict totals in code order (R38). -/
def CountTable.totals (c : CountTable) : List Nat := Verdict.all.map c.total

/-- The fifteen totals of the status summary: the eleven, then CONFLICT, RECOVERED, foreign and foreign
overflow (R38, R167). -/
def CountTable.allTotals (c : CountTable) : List Nat :=
  c.totals ++ [c.entries.countP Entry.conflict, c.entries.countP Entry.recovered, c.foreign.length, c.overflow]

/-- A placement names a location. -/
def Placement.at (l : Loc) (p : Placement) : Bool := p.loc == l

/-- An entry's placement, if any, names a location. -/
def Entry.placedAt (l : Loc) (e : Entry) : Bool := e.placement.any (Placement.at l)

/-- The placements of expected and foreign entries that name a location. -/
def CountTable.placementsAt (c : CountTable) (l : Loc) : List Placement :=
  ((c.entries.filterMap (·.placement)) ++ c.foreign.map (·.placement)).filter (Placement.at l)

/-- A location is a shelf. -/
def Loc.isShelf : Loc → Bool
  | .shelf _ => true
  | .loose _ => false

/-- An entry is expected on a location; none is expected on a loose location (R42). -/
def Entry.expectedAt (e : Entry) : Loc → Bool
  | .shelf t => e.shelf == t
  | .loose _ => false

/-- The expected count of a location (R41). -/
def CountTable.expectedCount (c : CountTable) (l : Loc) : Nat := c.entries.countP (·.expectedAt l)

/-- The placement count of a location (R41). -/
def CountTable.placementCount (c : CountTable) (l : Loc) : Nat := (c.placementsAt l).length

/-- The listed placement count of a location (R41). -/
def CountTable.listedCount (c : CountTable) (l : Loc) : Nat := c.entries.countP (Entry.placedAt l)

/-- The positioned placement count of a location (R41). -/
def CountTable.positionedCount (c : CountTable) (l : Loc) : Nat :=
  (c.placementsAt l).countP (·.position.isSome)

/-- The foreign placement count of a location (R41). -/
def CountTable.foreignCount (c : CountTable) (l : Loc) : Nat :=
  c.foreign.countP (fun f => f.placement.at l)

/-- The heard placement count of a location: positionless placements of a shelf (R41). -/
def CountTable.heardCount (c : CountTable) (l : Loc) : Nat :=
  if l.isShelf then (c.placementsAt l).countP (·.position.isNone) else 0

/-- The missing count of a location (R41). -/
def CountTable.missingCount (c : CountTable) (l : Loc) : Nat :=
  c.entries.countP (fun e => e.expectedAt l && c.verdict e == some .missing)

/-- The misordered count of a location (R41). -/
def CountTable.misorderedCount (c : CountTable) (l : Loc) : Nat :=
  c.entries.countP (fun e => e.placedAt l && c.verdict e == some .misordered)

/-- The pending count of a location (R41). -/
def CountTable.pendingCount (c : CountTable) (l : Loc) : Nat :=
  c.entries.countP (fun e => e.placedAt l && c.verdict e == some .pending)

/-- The number of shelves 1 to S of sweep count 0 (R175). -/
def CountTable.unsweptCount (c : CountTable) : Nat :=
  c.shelfNumbers.countP (fun t => c.sweepCount t == 0)

end Sys2Proof.Machine
end

