-- ==== Sys2Proof/Machine/Ordering.lean ====
section
/-! DEFINITION. The ordering sequence, the pile walk and its read-back (chapter 7). -/

namespace Sys2Proof.Machine

/-! ## Buckets and sequences -/

/-- The bucket of a position under a tolerance (R92). -/
def bucket (tolerance position : Nat) : Nat := position / tolerance

/-- The bucket and rank of an entry that stands in the sequence of shelf t: one placed there with a
position (R103). -/
def Entry.sequenceKey (tolerance t : Nat) (e : Entry) : Option (Nat × Nat) :=
  match e.placement with
  | some p =>
    match p.position with
    | some x => if p.loc = .shelf t then some (bucket tolerance x, e.rank) else none
    | none => none
  | none => none

/-- Ascending bucket, and ascending rank within a bucket (R103). -/
def keyLe (a b : Nat × Nat) : Bool := a.1 < b.1 || (a.1 == b.1 && a.2 ≤ b.2)

/-- The ranks of the sequence of shelf t under a tolerance (R103). -/
def shelfSequence (entries : List Entry) (tolerance t : Nat) : List Nat :=
  ((entries.filterMap (Entry.sequenceKey tolerance t)).insertionSort (fun a b => keyLe a b = true)).map (·.2)

/-- The ranks of the run-wide sequence over the shelves given, in shelf order (R104). -/
def runSequence (entries : List Entry) (tolerance : Nat) (shelves : List Nat) : List Nat :=
  shelves.flatMap (shelfSequence entries tolerance)

/-! ## The pile walk -/

/-- The walk with no piles (R105). -/
def Piles.none : Piles := { row := [], preds := [] }

/-- Rank r laid on a row of piles, `left` the top of the pile to the row's left: on the leftmost pile whose
top is greater, else on a new pile at the right end. Answers the row and the predecessor (R105). -/
def layOn (r : Nat) : Option Nat → List (List Nat) → List (List Nat) × Option Nat
  | left, [] => ([[r]], left)
  | left, pile :: rest =>
    match pile.head? with
    | some top =>
      if r < top then ((r :: pile) :: rest, left)
      else
        let laid := layOn r (some top) rest
        (pile :: laid.1, laid.2)
    | none => ((r :: pile) :: rest, left)

/-- One placement of the walk, with the predecessor recorded (R105). -/
def Piles.lay (p : Piles) (r : Nat) : Piles :=
  let laid := layOn r Option.none p.row
  { row := laid.1, preds := (r, laid.2) :: p.preds }

/-- The walk of a sequence (R105). -/
def walk (sequence : List Nat) : Piles := sequence.foldl Piles.lay Piles.none

/-- The predecessor recorded for a rank (R105). -/
def Piles.predOf (p : Piles) (r : Nat) : Option Nat :=
  match p.preds.find? (fun q => q.1 == r) with
  | some q => q.2
  | Option.none => Option.none

/-- The ranks reached from one rank through predecessors, that rank first; `fuel` ranks at most (R106). -/
def Piles.chain (p : Piles) : Nat → Nat → List Nat
  | 0, _ => []
  | fuel + 1, r =>
    match p.predOf r with
    | some q => r :: p.chain fuel q
    | Option.none => [r]

/-- The top of the rightmost pile (R106). -/
def Piles.lastTop (p : Piles) : Option Nat := p.row.getLast?.bind List.head?

/-- The in-order set: the read-back from the top of the rightmost pile, which meets one rank a pile (R106). -/
def Piles.inOrder (p : Piles) : List Nat :=
  match p.lastTop with
  | some r => p.chain p.row.length r
  | Option.none => []

/-- The ranks the walk laid: those of the job's sequence. -/
def Piles.ranks (p : Piles) : List Nat := p.preds.map (·.1)

/-- The standing the read-back gives a rank of the sequence (R106). -/
def Piles.standing (p : Piles) (r : Nat) : Standing := if r ∈ p.inOrder then .inOrder else .out

end Sys2Proof.Machine
end

