-- ==== Sys2Proof/Machine/Ops.lean ====
section
/-! DEFINITION. The operations the commands share: the report queue and the transmitter, the taking and
answering of a request, the wake, the buzzer, the evidence trigger and the copy, an evaluation event of
the Anomaly Monitor, the open, end and abandonment of a sweep, the order jobs and ORDER completion, and
the part of each block in RS and DR. -/

namespace Sys2Proof.Machine

/-! ## The link's queues (R156, R159) -/

/-- A report joins the report queue, or is discarded and counted at the full queue. A CAL that joins sets
the CALL pending mark (R159). -/
def LinkUnit.queueReport (r : Report) (l : LinkUnit) : LinkUnit :=
  if l.reports.length < Config.reportQueueSize then
    { l with reports := l.reports ++ [r], callPending := l.callPending || r == .cal }
  else
    { l with reportsDropped := satInc Config.count8Max l.reportsDropped }

/-- A block queues a report at the Link Unit (R159). -/
def State.report (r : Report) (s : State) : State := { s with link := s.link.queueReport r }

/-- A refusal of the Link Unit's own joins the refusal queue, or is lost and counted (R156). -/
def LinkUnit.queueRefusal (r : Reply) (l : LinkUnit) : LinkUnit :=
  if l.refusals.length < Config.refusalQueueSize then { l with refusals := l.refusals ++ [r] }
  else { l with refusalsLost := satInc Config.count8Max l.refusalsLost }

/-! ## The transmitter (R160, R161) -/

/-- The head of the report queue begins its transmission; a CAL's beginning clears the mark (R159). -/
def LinkUnit.beginReport (r : Report) (rest : List Report) (l : LinkUnit) : LinkUnit :=
  { l with sending := some (.report r), reports := rest, callPending := l.callPending && r != .cal }

/-- What an FE's reserved slot becomes when the allowance reaches 0: its reply, with the reports sent and
those then waiting, or empty for `;` (R161). -/
def fetchReply (sent waiting : Nat) (disp : Terminator) : ReplySlot :=
  match disp with
  | .reply => .filled { word := RequestWord.FE.text, code := .OK, fields := [.num sent, .num waiting] }
  | _ => .empty

/-- One report of the FE allowance has begun: the allowance falls, and at 0 the reserved slot is filled (R161). -/
def LinkUnit.countFetched (l : LinkUnit) : LinkUnit :=
  let left := l.allowance - 1
  match l.reply with
  | .reserved sent disp =>
    { l with
      allowance := left
      reply := if left = 0 then fetchReply (sent + 1) l.reports.length disp else .reserved (sent + 1) disp }
  | _ => { l with allowance := left }

/-- The free transmitter begins the oldest refusal, else the head of the report queue under an FE
allowance or under streaming, if any of these applies (R160, steps 2 to 4). -/
def LinkUnit.beginQueued (l : LinkUnit) : LinkUnit :=
  match l.refusals with
  | r :: rest => { l with sending := some (.reply r), refusals := rest }
  | [] =>
    match l.reports with
    | [] => l
    | r :: rest =>
      if 0 < l.allowance then (l.beginReport r rest).countFetched
      else if l.streamingInEffect then l.beginReport r rest
      else l

/-- The request the link hands to its owner: the one in the holding slot while the reply slot is empty. A
list item being filed and a waiting barrier have been taken already and only hold the slot (R157). -/
def LinkUnit.takeable (l : LinkUnit) : Option Held :=
  if l.reply = .empty ∧ l.filing = false ∧ l.barrier = none then l.slot else none

/-- The transmitter, if it is free, begins the reply in the reply slot, else what waits in the queues
(R160). The reply slot empties as its reply begins (R158). While a request can be taken the event that
lets it be taken goes on, and the transmitter begins nothing before the taking: so RS and DR discard the
WAK of the wake their own record made, and a reply precedes it (R63, R157; DEDUCED, unsafe: entry 8). -/
def LinkUnit.pump (l : LinkUnit) : LinkUnit :=
  match l.sending, l.takeable with
  | none, none =>
    match l.reply with
    | .filled r => { l with sending := some (.reply r), reply := .empty }
    | _ => l.beginQueued
  | _, _ => l

/-- The condition of a barrier: the Sweep Unit not CLOSING and the run not CLOSING, and for ALL the report
queue empty (R164). -/
def State.barrierHolds (scope : BarrierScope) (s : State) : Bool :=
  (s.sweep.phase == .idle || s.sweep.phase == .opened) && s.table.run != .closing &&
  (match scope with | .engine => true | .all => s.link.reports.isEmpty)

/-- The record of the barrier that is due: it waits in the holding slot, and its condition holds (R164). -/
def State.dueBarrier (s : State) : Option Held :=
  match s.link.barrier with
  | some scope => if s.barrierHolds scope then s.link.slot else none
  | none => none

/-- The transmitter at the end of an event. R164 has a barrier complete at the event that makes its condition
true: while one is due that event goes on to the completion, and the transmitter begins nothing before it, so
that the barrier's reply goes before the SWD or RND of the same event, as R160's order says (R160, R164;
DEDUCED, unsafe: entry 8). -/
def State.pump (s : State) : State :=
  match s.dueBarrier with
  | some _ => s
  | none => { s with link := s.link.pump }

/-- The end of an event: the transmitter begins what it may, "at each event at which it is free and
something waits" (R160; that it does so at the end of the event is entry 8). -/
def finish (s : State) : Host.Outcome State Fault Refusal := .next s.pump

/-! ## Taking and answering a request (R157, R158) -/

/-- The request that can be taken now (R157). -/
def State.takeable (s : State) : Option Held := s.link.takeable

/-- The holding slot frees (R157). -/
def State.freeSlot (s : State) : State := { s with link := { s.link with slot := none } }

/-- A reply is placed in the reply slot (R158). -/
def State.place (w : RequestWord) (code : StatusCode) (fields : List Field) (s : State) : State :=
  { s with link := { s.link with reply := .filled { word := w.text, code := code, fields := fields } } }

/-- What the owner of a request decides: a refusal with its fields, or acceptance with the state after it
and the fields of the OK reply. -/
inductive Decision where
  | refuse (code : StatusCode) (fields : List Field)
  | accept (after : State) (fields : List Field)
  deriving DecidableEq, Repr

/-- The decision acted on under a disposition: a refusal is always replied; `;` performs quietly, `?`
performs and replies OK, `=` replies CK and changes nothing (R155, R158). -/
def answer (w : RequestWord) (disp : Terminator) (s : State) : Decision → State
  | .refuse code fields => s.place w code fields
  | .accept after fields =>
    match disp with
    | .perform => after
    | .reply => after.place w .OK fields
    | .check => s.place w .CK []

/-- A request is taken by its owner: `decide` answers for the requests the command concerns. When no such
request can be taken the event does not occur and nothing changes (DESIGN CHOICE, safe: entry 2). -/
def takeRequest (decide : Request → State → Option Decision) (s : State) :
    Host.Outcome State Fault Refusal :=
  match s.takeable with
  | none => .next s
  | some h =>
    match decide h.req s.freeSlot with
    | none => .next s
    | some d => finish (answer h.req.word h.disp s.freeSlot d)

/-! ## The wake and the buzzer (R62, R176) -/

/-- A wake cause reaches the Read Port: a dormant controller powers the receiver up and queues WAK (R62). -/
def State.wake (cause : WakeCause) (s : State) : State :=
  match s.port.dormancy with
  | .awake => s
  | .dormant => ({ s with port := { s.port with dormancy := .awake } }).report (.wak cause)

/-- A pattern is requested of the buzzer: it sounds, or waits, or at a full list is not sounded (R176). -/
def Panel.buzz (p : Pattern) (panel : Panel) : Panel :=
  match panel.sounding with
  | none => { panel with sounding := some p }
  | some _ =>
    if panel.waiting.length < Config.buzzerListSize then { panel with waiting := panel.waiting ++ [p] }
    else panel

/-- A block has the wand panel sound a pattern (R176). -/
def State.buzz (p : Pattern) (s : State) : State := { s with panel := s.panel.buzz p }

/-! ## The Evidence Buffer (chapter 10) -/

/-- A copy is appended behind the newest record (section 10.2). -/
def EvidenceBuffer.append (r : StampedRead) (e : EvidenceBuffer) : EvidenceBuffer :=
  { e with records := e.records ++ [r] }

/-- A copy is rolled: appended below 64 records, else the oldest record is removed first and OVERRUN set
(section 10.2, R146). -/
def EvidenceBuffer.rollIn (r : StampedRead) (e : EvidenceBuffer) : EvidenceBuffer :=
  if e.records.length < Config.evidenceSize then e.append r
  else { e with records := e.records.tail ++ [r], overrun := true }

/-- The buffer captures or discards a copy by its mode, flags, count and phase (R145 to R148). In FILL a copy
is appended by STOPPED and the count held alone, so also after an ER taken while STOPPED is clear, where the
letters of R145 and R152 part (DEDUCED, unsafe: entry 25). -/
def EvidenceBuffer.capture (r : StampedRead) (e : EvidenceBuffer) : EvidenceBuffer :=
  match e.mode with
  | .off => e
  | .fill =>
    if e.stopped then e
    else
      let e' := e.append r
      { e' with stopped := decide (Config.evidenceSize ≤ e'.records.length) }
  | .roll => e.rollIn r
  | .rollFreeze =>
    match e.phase with
    | .frozen => e
    | .freezing =>
      let e' := e.rollIn r
      if e'.records.length = Config.evidenceSize then { e' with phase := .frozen } else e'
    | _ => e.rollIn r
  | .armRoll =>
    match e.phase with
    | .capturing => e.rollIn r
    | _ => e

/-- The EVW report of a buffer as it stands (R150). -/
def EvidenceBuffer.evw (e : EvidenceBuffer) : Report :=
  .evw e.records.length e.watermark e.mode e.stopped e.frozen e.overrun

/-- A copy of an accepted read is offered; where WATERMARK rises an EVW report is queued (R144, R150). -/
def State.offerCopy (r : StampedRead) (s : State) : State :=
  let e := s.evidence.capture r
  let s' := { s with evidence := e }
  if !s.evidence.aboveWatermark && e.aboveWatermark then s'.report e.evw else s'

/-- The evidence trigger rises (R147 to R149). -/
def EvidenceBuffer.rise (e : EvidenceBuffer) : EvidenceBuffer :=
  match e.phase with
  | .rolling => { e with phase := .freezing }
  | .armed => { e with phase := .capturing }
  | _ => e

/-- The evidence trigger falls (R147 to R149). -/
def EvidenceBuffer.fall (e : EvidenceBuffer) : EvidenceBuffer :=
  match e.phase with
  | .freezing => { e with phase := .rolling }
  | .frozen => { e with phase := .rolling }
  | .capturing => { e with phase := .armed }
  | _ => e

/-- The buffer after RS and DR: empty, OFF, flags clear, the watermark kept (R153). -/
def EvidenceBuffer.reset (e : EvidenceBuffer) : EvidenceBuffer :=
  { EvidenceBuffer.start with watermark := e.watermark }

/-! ## The Anomaly Monitor (chapter 9) -/

/-- The record of a condition. -/
def Conditions.get (c : Conditions) : CondCode → Condition
  | .missingHi => c.missingHi
  | .misorderHi => c.misorderHi
  | .foreignHi => c.foreignHi
  | .fillLo => c.fillLo
  | .rateLo => c.rateLo
  | .bleedHi => c.bleedHi

/-- The records with that of one condition replaced. -/
def Conditions.put (c : Conditions) (code : CondCode) (r : Condition) : Conditions :=
  match code with
  | .missingHi => { c with missingHi := r }
  | .misorderHi => { c with misorderHi := r }
  | .foreignHi => { c with foreignHi := r }
  | .fillLo => { c with fillLo := r }
  | .rateLo => { c with rateLo := r }
  | .bleedHi => { c with bleedHi := r }

/-- The test of a condition: FILL_LO and RATE_LO are true below their threshold, the others above (R130). -/
def CondCode.holds (code : CondCode) (threshold measure : Nat) : Bool :=
  match code with
  | .fillLo => measure < threshold
  | .rateLo => measure < threshold
  | _ => threshold < measure

/-- The state of a condition set. -/
def Conditions.setState (c : Conditions) (code : CondCode) (b : Bool) : Conditions :=
  c.put code { c.get code with state := b }

/-- The states of the conditions an evaluation names, set from their measures (R131). -/
def Conditions.measure (c : Conditions) : List (CondCode × Nat) → Conditions
  | [] => c
  | m :: ms => (c.setState m.1 (m.1.holds (c.get m.1).threshold m.2)).measure ms

/-- The conditions that are enabled and true, in code order (R137). -/
def Conditions.raised (c : Conditions) : List CondCode :=
  CondCode.all.filter (fun x => (c.get x).enabled && (c.get x).state)

/-- The conditions that are enabled. -/
def Conditions.enabledCodes (c : Conditions) : List CondCode :=
  CondCode.all.filter (fun x => (c.get x).enabled)

/-- The combined value (R134). -/
def Monitor.combined (m : Monitor) : Bool :=
  match m.combine with
  | .any => !m.conds.raised.isEmpty
  | .all => !m.conds.enabledCodes.isEmpty && m.conds.enabledCodes.all (fun x => (m.conds.get x).state)

/-- The duration counter after an evaluation event of the combined value given (R135). -/
def nextCounter (combined : Bool) (counter : Nat) : Nat :=
  if combined then satInc Config.durationMax counter else 0

/-- An activation: the source record is stored, ANM queued, the long tone requested, and the evidence
trigger rises (R137). -/
def State.activate (source : SourceRecord) (s : State) : State :=
  (({ s with
      monitor := { s.monitor with active := true, source := some source }
      evidence := s.evidence.rise }).report (.anm source)).buzz .longTone

/-- The active state ends: the evidence trigger falls (R136, R137). -/
def State.deactivate (s : State) : State :=
  { s with monitor := { s.monitor with active := false }, evidence := s.evidence.fall }

/-- One evaluation of the conditions named, with their measures, at a location and for a sweep. It moves
the counter and the active state when a condition it names is enabled (R131, R134 to R136). -/
def State.evaluate (kind : EvalKind) (loc : Loc) (sweep : Nat) (ms : List (CondCode × Nat)) (s : State) :
    State :=
  let conds := s.monitor.conds.measure ms
  let measured : Monitor := { s.monitor with conds := conds }
  if ms.any (fun m => (conds.get m.1).enabled) then
    let counter := nextCounter measured.combined measured.counter
    let s' := { s with monitor := { measured with counter := counter } }
    if measured.active then
      if !measured.latched && counter == 0 then s'.deactivate else s'
    else if measured.duration + 1 ≤ counter then
      s'.activate { kind := kind, conditions := conds.raised, loc := loc, sweep := sweep }
    else s'
  else { s with monitor := measured }

/-- The monitor after RS and DR: states false, counter 0, inactive, no source record; the rest kept (R142). -/
def Monitor.reset (m : Monitor) : Monitor :=
  let off (c : Condition) : Condition := { c with state := false }
  { m with
    conds := { missingHi := off m.conds.missingHi, misorderHi := off m.conds.misorderHi,
               foreignHi := off m.conds.foreignHi, fillLo := off m.conds.fillLo,
               rateLo := off m.conds.rateLo, bleedHi := off m.conds.bleedHi }
    counter := 0, active := false, source := none }

/-! ## Opening, ending and abandoning a sweep (chapter 5) -/

/-- The number the next sweep takes: one more, from 65,535 to 1 (R15). -/
def nextSweepNumber (n : Nat) : Nat := if n < Config.count16Max then n + 1 else 1

/-- A sweep opens on a target in a mode (R69). -/
def State.openSweep (target : Loc) (mode : SweepMode) (s : State) : State :=
  let number := nextSweepNumber s.table.sweepNumber
  let record := { s.table.recordAt target with state := .sweeping }
  let conds := (s.monitor.conds.setState .rateLo false).setState .bleedHi false
  ({ s with
     table := { s.table.setRecord target record with sweepNumber := number }
     port := { s.port with position := 0 }
     sweep := { s.sweep with
       phase := .opened
       record := { OpenRecord.cleared with number := number, target := some target, mode := some mode }
       sightings := []
       idleTimer := some s.link.settings.idleLimit
       rateWindow := if target.isShelf then some { start := 0, count := 0 } else none }
     monitor := { s.monitor with conds := conds } }).buzz .oneShort

/-- The sweep ends: the timer stops, the rate window is discarded, FINALIZE begins and captures the bleed
ratio in force (R76, R77). -/
def State.endSweep (s : State) : State :=
  { s with sweep := { s.sweep with
      phase := .finalize
      idleTimer := none
      rateWindow := none
      record := { s.sweep.record with bleed := some s.link.settings.bleed } } }

/-- The ranks of the listed sightings, in first-read order. -/
def listedRanks (sightings : List Sighting) : List Nat :=
  sightings.filterMap (fun x => match x.kind with | .listed r => some r | .foreign => none)

/-- The IN_SWEEP mark cleared on the entries of the ranks given (R81, R99). -/
def Entry.clearInSweep (ranks : List Nat) (e : Entry) : Entry :=
  if e.rank ∈ ranks then { e with inSweep := false } else e

/-- An abandonment's conversion of RETURNED_SINCE: SET_DURING becomes SET for an entry expected on the
shelf target (R81). -/
def Entry.settleReturned (target : Loc) (e : Entry) : Entry :=
  if e.expectedAt target && e.returned == .setDuring then { e with returned := .set } else e

/-- The target's record once it leaves SWEEPING without a commit (R12). -/
def LocRecord.leaveSweeping (r : LocRecord) : LocRecord :=
  { r with state := if r.sweepCount = 0 then .unswept else .swept }

/-- The Count Table's part of an abandonment of the sweep on `target` (R81). -/
def CountTable.abandon (target : Loc) (ranks : List Nat) (c : CountTable) : CountTable :=
  let marked := c.entries.map (fun e => Entry.settleReturned target (e.clearInSweep ranks))
  ({ c with entries := marked }).setRecord target (c.recordAt target).leaveSweeping

/-- The abandonment of a sweep in OPEN or FINALIZE, but for the report it queues (R81). -/
def State.abandonSweep (s : State) : State :=
  { s with
    port := { s.port with queue := [] }
    table := match s.sweep.record.target with
      | some target => s.table.abandon target (listedRanks s.sweep.sightings)
      | none => s.table
    sweep := { s.sweep with phase := .idle, sightings := [], idleTimer := none, rateWindow := none } }

/-- The SWA report of the sweep now open or in FINALIZE (R84). -/
def SweepUnit.swa (u : SweepUnit) (cause : AbandonCause) : Report :=
  .swa u.record.number u.record.target cause u.phase u.record.facts.accepted u.record.facts.dropped

/-- The idle timer restarts with the limit in force (R73). -/
def State.restartIdle (s : State) : State :=
  { s with sweep := { s.sweep with idleTimer := some s.link.settings.idleLimit } }

/-! ## Order jobs and ORDER completion (chapter 7, R79) -/

/-- The job of the list's head shelf begins: it reads the tolerance in force, builds its sequence and walks
it. With an empty list no job is in flight (R107, R108). -/
def OrderUnit.beginShelf (entries : List Entry) (tolerance : Nat) (jobs : List Nat) : OrderUnit :=
  match jobs with
  | [] => OrderUnit.cleared
  | t :: _ =>
    { jobs := jobs, current := .shelf t, tolerance := some tolerance,
      piles := walk (shelfSequence entries tolerance t) }

/-- The run-wide job begins (R111). -/
def OrderUnit.beginRun (entries : List Entry) (tolerance : Nat) (shelves : List Nat) : OrderUnit :=
  { jobs := [], current := .run, tolerance := some tolerance,
    piles := walk (runSequence entries tolerance shelves) }

/-- The measures of the four shelf conditions for a shelf target (R130, R133). -/
def CountTable.shelfMeasures (c : CountTable) (target : Loc) : List (CondCode × Nat) :=
  [(.missingHi, c.missingCount target), (.misorderHi, c.misorderedCount target),
   (.foreignHi, c.foreignCount target), (.fillLo, c.positionedCount target)]

/-- ORDER completion: the shelf conditions are evaluated for a shelf target, SWD is queued, and the Sweep
Unit becomes IDLE (R79). -/
def State.completeOrder (s : State) : State :=
  let s1 :=
    match s.sweep.record.target with
    | some (.shelf t) =>
      s.evaluate .shelf (.shelf t) s.sweep.record.number (s.table.shelfMeasures (.shelf t))
    | _ => s
  let s2 := s1.report (.swd s1.sweep.record)
  { s2 with sweep := { s2.sweep with phase := .idle } }

/-! ## Characters of the link (R155, R156) -/

/-- The word of a record is complete: two letters are stored (R155). -/
def LinkUnit.wordComplete (l : LinkUnit) : Bool := l.parser == .inWord && l.buffer.length == 2

/-- The parser's next state on a character that is stored (R155). -/
def LinkUnit.nextParser (l : LinkUnit) (c : Byte) : Parser :=
  match l.parser with
  | .awaitWord => if isLetter c then .inWord else .discarding
  | .inWord =>
    if l.wordComplete then (if c = asc ',' then .inField else .discarding)
    else if isLetter c then .inWord
    else .discarding
  | .inField => if isLetter c || isDigit c || c == asc ',' then .inField else .discarding
  | .discarding => .discarding

/-- A character that completes no record arrives: ignored, stored, or as the 81st of its record sending
the parser to DISCARDING (R155). -/
def LinkUnit.storeChar (c : Byte) (l : LinkUnit) : LinkUnit :=
  if l.parser = .discarding then l
  else if l.parser = .awaitWord ∧ isCrLf c = true then l
  else if l.buffer.length < Config.bufferSize then
    { l with buffer := l.buffer ++ [c], parser := l.nextParser c }
  else { l with parser := .discarding }

/-- A terminator arriving now completes the record: the word is complete, a field is open, or the record
is being discarded (R155). -/
def LinkUnit.completes (l : LinkUnit) : Bool :=
  l.wordComplete || l.parser == .inField || l.parser == .discarding

/-- The record completing now completes as discarded: the parser is DISCARDING, or the terminator is the
81st character (R155). -/
def LinkUnit.discards (l : LinkUnit) : Bool :=
  l.parser == .discarding || Config.bufferSize ≤ l.buffer.length

/-- The word of the record in the buffer as a refusal carries it: in capitals if two letters were stored,
else ?? (R156; DEDUCED, unsafe: entry 9). -/
def LinkUnit.refusalWord (l : LinkUnit) : List Byte :=
  match l.buffer with
  | a :: b :: _ => if isLetter a && isLetter b then [upper a, upper b] else [asc '?', asc '?']
  | _ => [asc '?', asc '?']

/-- The fate of the record that completes with the disposition given, in the order of R156. The buffer is
still that of the record. -/
def LinkUnit.completeRecord (t : Terminator) (l : LinkUnit) : LinkUnit :=
  let cleared := { l with buffer := [], parser := .awaitWord }
  let refuse (code : StatusCode) : LinkUnit :=
    cleared.queueRefusal { word := l.refusalWord, code := code, fields := [] }
  if l.discards then refuse .FM
  else if l.slot.isSome then refuse .OV
  else
    match readRecord l.buffer with
    | .unknown => refuse .UK
    | .malformed => refuse .FM
    | .request r => { cleared with slot := some { req := r, disp := t } }

/-- A character arrives from the UART. A terminator that completes a record wakes a dormant controller
first (R62, R155, R156). -/
def State.receive (c : Byte) (s : State) : State :=
  match terminatorOf c with
  | some t =>
    if s.link.completes then
      let s1 := s.wake .record
      { s1 with link := s1.link.completeRecord t }
    else { s with link := s.link.storeChar c }
  | none => { s with link := s.link.storeChar c }

/-! ## RS and DR block by block -/

/-- The Link Unit's part of RS: parser and buffer, both outbound queues, the CALL mark and the two counts;
the reply slot gets the RS reply after this (R169, R171). -/
def LinkUnit.softReset (l : LinkUnit) : LinkUnit :=
  { l with
    parser := .awaitWord, buffer := [], refusals := [], refusalsLost := 0, reports := [],
    reportsDropped := 0, callPending := false, allowance := 0, barrier := none }

/-- The Link Unit's part of DR: the report queue and the CALL mark (R159, R171). -/
def LinkUnit.discardRun (l : LinkUnit) : LinkUnit :=
  { l with reports := [], callPending := false, allowance := 0, barrier := none }

/-- The Read Port's part of RS and DR: the queue emptied, AWAKE, the rest kept (R64). -/
def ReadPort.reset (p : ReadPort) : ReadPort := { p with queue := [], dormancy := .awake }

/-- The Count Table's part of DR: in EMPTY unchanged, else cleared (R7). -/
def CountTable.discard (c : CountTable) : CountTable :=
  if c.run = .empty then c else CountTable.cleared

/-- The fields of the RS and DR replies: 1 and a sweep number, or 0 and an absent one (R170). -/
def endedSweepFields (ended : Bool) (number : Nat) : List Field :=
  if ended then [.num 1, .num number] else [.num 0, .absent]

end Sys2Proof.Machine
end

