-- ==== Sys2Proof/Machine/CommitWork.lean ====
section
/-! DEFINITION. The commit (section 6.4): the recount vacate, the offers, the standings and marks, the
returned-since conversion, the target record and the hand-off to the Order Unit, as one event. -/

namespace Sys2Proof.Machine

/-- What the commit carries along while its steps are worked through: the entries and the foreign list as
changed so far, the locations affected and the ranks placed or vacated, the WSN reports in the order of
their offers, and the outcome counts. -/
structure CommitWork where
  entries  : List Entry
  foreign  : List ForeignEntry
  overflow : Nat
  affected : List Loc
  reached  : List Nat
  wsns     : List Report
  outcomes : Outcomes
  deriving DecidableEq, Repr

/-- The start of a commit over a table. -/
def CountTable.commitStart (c : CountTable) : CommitWork :=
  { entries := c.entries, foreign := c.foreign, overflow := c.overflow, affected := [], reached := [],
    wsns := [], outcomes := Outcomes.zero }

/-! ## Step 1: the recount vacate (R94) -/

/-- An entry vacated from the target (R94). -/
def Entry.vacate (target : Loc) (e : Entry) : Entry :=
  if e.placedAt target then { e with placement := none, shelfStanding := .none, lentSince := false } else e

/-- Every placement naming the target is vacated; vacated foreign entries leave the list (R94). -/
def CommitWork.vacate (target : Loc) (w : CommitWork) : CommitWork :=
  let vacated := w.entries.filter (Entry.placedAt target)
  let leaving := w.foreign.any (fun f => f.placement.at target)
  { w with
    entries := w.entries.map (Entry.vacate target)
    foreign := w.foreign.filter (fun f => !f.placement.at target)
    affected := if !vacated.isEmpty || leaving then target :: w.affected else w.affected
    reached := vacated.map (·.rank) ++ w.reached }

/-! ## Step 2: the offers (R95 to R98) -/

/-- The strength rule: the offer is weighed against a placement on the target or a neighbour of it, the
target being a shelf; against any other placement the later sweep wins (R95). -/
def offerWins (g : Option Geometry) (target : Loc) (strength : Nat) (held : Placement) : Bool :=
  match target, held.loc with
  | .shelf t, .shelf u =>
    if t = u ∨ g.any (fun g => g.neighbours t u) = true then held.strength < strength else true
  | _, _ => true

/-- The placement an offer makes (R96). -/
def Offer.placement (o : Offer) (target : Loc) (sweep : Nat) : Placement :=
  { loc := target, position := o.position, strength := o.strength, reads := o.reads, sweep := sweep }

/-- The outcomes of an offer (R101). -/
inductive OfferOutcome where
  | placed
  | movedIn
  | kept
  | dropped
  deriving DecidableEq, Repr

/-- An offer of an outcome counted (R78, R101). -/
def Outcomes.count (target : Loc) (o : Offer) (x : OfferOutcome) (c : Outcomes) : Outcomes :=
  { newPlacements := c.newPlacements + (if x = .placed then 1 else 0)
    movedIn := c.movedIn + (if x = .movedIn then 1 else 0)
    keptElsewhere := c.keptElsewhere + (if x = .kept then 1 else 0)
    foreign := c.foreign + (if o.kind = .foreign then 1 else 0)
    foreignDropped := c.foreignDropped + (if x = .dropped then 1 else 0)
    heard := c.heard + (if target.isShelf && o.position.isNone then 1 else 0) }

/-- The outcome of an offer against the placement its item holds, if any (R95). -/
def offerOutcome (g : Option Geometry) (target : Loc) (o : Offer) (held : Option Placement) :
    OfferOutcome :=
  match held with
  | none => .placed
  | some p => if offerWins g target o.strength p then .movedIn else .kept

/-- The locations an applied offer affects: the target, and the location the placement leaves (R99). -/
def affectedBy (target : Loc) (held : Option Placement) : List Loc :=
  match held with
  | some p => [target, p.loc]
  | none => [target]

/-- An entry that receives a placement: RETURNED_SINCE becomes CLEAR, the rest is kept (R96). -/
def Entry.accept (p : Placement) (e : Entry) : Entry := { e with placement := some p, returned := .clear }

/-- The WSN report of a watched entry that receives a placement, with the location it had before the commit
(R43, R44). -/
def wsnReport (commit : Commit) (before : List Entry) (o : Offer) (e : Entry) : Report :=
  .wsn commit.number e.rank e.code commit.target o.position
    ((before.find? (fun b => b.rank == e.rank)).bind (fun b => b.placement.map (·.loc)))

/-- A listed offer applied to the entry of its rank (R95, R96). `before` holds the entries before the
commit. -/
def CommitWork.applyListed (g : Option Geometry) (commit : Commit) (before : List Entry) (rank : Nat)
    (o : Offer) (w : CommitWork) : CommitWork :=
  match w.entries.find? (fun e => e.rank == rank) with
  | none => w
  | some e =>
    let outcome := offerOutcome g commit.target o e.placement
    let counted := w.outcomes.count commit.target o outcome
    if outcome = .kept then { w with outcomes := counted }
    else
      { w with
        entries := w.entries.map (fun x =>
          if x.rank == rank then x.accept (o.placement commit.target commit.number) else x)
        affected := affectedBy commit.target e.placement ++ w.affected
        reached := rank :: w.reached
        wsns := if e.watch then w.wsns ++ [wsnReport commit before o e] else w.wsns
        outcomes := counted }

/-- A foreign offer that finds its foreign entry: it is sighted once more, and placed or kept (R98). -/
def CommitWork.applyFound (g : Option Geometry) (commit : Commit) (f : ForeignEntry) (o : Offer)
    (w : CommitWork) : CommitWork :=
  let outcome := offerOutcome g commit.target o (some f.placement)
  let p := if outcome = .kept then f.placement else o.placement commit.target commit.number
  { w with
    foreign := w.foreign.map (fun x =>
      if x.code == o.code then { x with placement := p, sighted := satInc Config.count8Max x.sighted } else x)
    affected := if outcome = .kept then w.affected
      else affectedBy commit.target (some f.placement) ++ w.affected
    outcomes := w.outcomes.count commit.target o outcome }

/-- A foreign offer: to its foreign entry, to a new one, or dropped at the full list (R98). -/
def CommitWork.applyForeign (g : Option Geometry) (commit : Commit) (o : Offer) (w : CommitWork) :
    CommitWork :=
  match w.foreign.find? (fun f => f.code == o.code) with
  | some f => w.applyFound g commit f o
  | none =>
    if w.foreign.length < Config.foreignListSize then
      { w with
        foreign := w.foreign ++
          [{ code := o.code, placement := o.placement commit.target commit.number, sighted := 1 }]
        affected := commit.target :: w.affected
        outcomes := w.outcomes.count commit.target o .placed }
    else
      { w with
        overflow := satInc Config.count8Max w.overflow
        outcomes := w.outcomes.count commit.target o .dropped }

/-- One offer applied (R93, step 2). -/
def CommitWork.applyOffer (g : Option Geometry) (commit : Commit) (before : List Entry) (w : CommitWork)
    (o : Offer) : CommitWork :=
  match o.kind with
  | .listed rank => w.applyListed g commit before rank o
  | .foreign => w.applyForeign g commit o

/-- Steps 1 and 2: the vacate of a RECOUNT, then the offers in first-read order (R93). -/
def CountTable.applyOffers (c : CountTable) (commit : Commit) : CommitWork :=
  let start := match commit.mode with
    | .recount => c.commitStart.vacate commit.target
    | .new => c.commitStart
  commit.offers.foldl (CommitWork.applyOffer c.geometry commit c.entries) start

/-! ## Steps 3 to 5 -/

/-- An entry's placement names an affected shelf with a position (R99). -/
def Entry.standsAffected (affected : List Loc) (e : Entry) : Bool :=
  e.placement.any (fun p => p.position.isSome && p.loc.isShelf && affected.contains p.loc)

/-- The shelf standing step 3 gives: PENDING with a position on an affected shelf, NONE when the commit
reached the entry and left it without one, else as it was (R99). -/
def Entry.settleStanding (affected : List Loc) (reached : List Nat) (e : Entry) : Entry :=
  if e.standsAffected affected then { e with shelfStanding := .pending }
  else if e.rank ∈ reached then { e with shelfStanding := .none }
  else e

/-- A RETURNED_SINCE mark converted by a committed pass of the entry's shelf: SET to CLEAR, SET_DURING to
SET (R100). -/
def Returned.convert : Returned → Returned
  | .clear => .clear
  | .set => .clear
  | .setDuring => .set

/-- Step 4 on an entry: converted when it is expected on the target and unplaced (R100). -/
def Entry.convertReturned (target : Loc) (e : Entry) : Entry :=
  if e.expectedAt target && e.placement.isNone then { e with returned := e.returned.convert } else e

/-- Steps 3 and 4 on an entry: standing, IN_SWEEP mark, RETURNED_SINCE (R99, R100). -/
def Entry.settle (commit : Commit) (w : CommitWork) (e : Entry) : Entry :=
  Entry.convertReturned commit.target ((e.settleStanding w.affected w.reached).clearInSweep commit.ranks)

/-- The target's record after a commit (R13). -/
def LocRecord.committed (commit : Commit) (r : LocRecord) : LocRecord :=
  { state := .swept, sweepCount := satInc Config.count8Max r.sweepCount, lastSweep := commit.number,
    facts := commit.facts }

/-- The cursor moves after a shelf commit and stays after a loose one (R13). -/
def CountTable.moveCursor (target : Loc) (c : CountTable) : CountTable :=
  match target with
  | .shelf t => { c with cursor := c.nextCursor t }
  | .loose _ => c

/-- The Count Table after the commit (R93, steps 1 to 5). -/
def CountTable.commit (c : CountTable) (commit : Commit) (w : CommitWork) : CountTable :=
  CountTable.moveCursor commit.target
    (({ c with entries := w.entries.map (Entry.settle commit w), foreign := w.foreign,
               overflow := w.overflow }).setRecord
      commit.target ((c.recordAt commit.target).committed commit))

/-! ## Step 6 and the whole event -/

/-- The affected shelves in ascending shelf number (R101). -/
def CommitWork.affectedShelves (w : CommitWork) : List Nat :=
  ((List.range Config.shelfRecords).map (· + 1)).filter (fun t => w.affected.contains (.shelf t))

/-- The reports of a list, queued in order. -/
def State.reportAll (rs : List Report) (s : State) : State := rs.foldl (fun s r => s.report r) s

/-- The Sweep Unit at the commit event: the sighting table empties, the last commit is set, the outcome
counts are taken, and ORDER begins (R66, R78). -/
def SweepUnit.afterCommit (commit : Commit) (outcomes : Outcomes) (u : SweepUnit) : SweepUnit :=
  { u with
    phase := .order
    sightings := []
    inFlight := none
    record := { u.record with outcomes := outcomes }
    lastCommit := some { number := commit.number, target := commit.target }
    lastShelf := match commit.target with
      | .shelf t => some t
      | .loose _ => u.lastShelf }

/-- The commit event (R93): the WSN reports are queued, the first shelf job begins, and with no affected
shelf ORDER completes at once (R79, R107). -/
def State.commitEvent (commit : Commit) (s : State) : State :=
  let w := s.table.applyOffers commit
  let table := s.table.commit commit w
  let jobs := w.affectedShelves
  let s1 := ({ s with
      table := table
      sweep := s.sweep.afterCommit commit w.outcomes
      order := OrderUnit.beginShelf table.entries s.link.settings.tolerance jobs }).reportAll w.wsns
  if jobs.isEmpty then s1.completeOrder else s1

/-- COMMIT: the commit in flight is applied (R93). -/
def execCommit (s : State) : Host.Outcome State Fault Refusal :=
  match s.sweep.phase, s.sweep.inFlight with
  | .commit, some commit => finish (s.commitEvent commit)
  | _, _ => .next s

end Sys2Proof.Machine
end

