-- ==== Sys2Proof/Machine/Queries.lean ====
section
/-! DEFINITION. The queries: QE, QV, QH (chapters 2 and 3), TS, CV, QS and QF (chapter 11). They change
nothing but the link's own slots. -/

namespace Sys2Proof.Machine

/-- The count of a QV, ER or QF: 1 to 8, clamped, 8 when absent (R45, R152, R168). -/
def pageCount (count : Option Nat) : Nat :=
  match count with
  | some n => clamp 1 Config.pageSize n
  | none => Config.pageSize

/-! ## QE (R28, R29) -/

/-- The fields of the QE reply for an entry (R29, R170). -/
def CountTable.entryFields (c : CountTable) (e : Entry) : List Field :=
  List.flatten [
  [.num e.rank, .code e.code, .num e.shelf, .num e.status.code, .flag e.watch],
  (match e.placement with | some p => p.fields | none => Field.absents 5),
  [.num e.shelfStanding.code, .num e.runStanding.code, .flag e.inSweep, .flag e.lentSince,
   .num e.returned.code, .opt ((c.verdict e).map Verdict.code), .flag e.conflict, .flag e.recovered]]

/-- The outcome of a lookup by QE (R28). -/
def CountTable.answerEntry (c : CountTable) (s : State) : Option Entry → Decision
  | some e => .accept s (c.entryFields e)
  | none => .refuse .NF []

/-- QE's checks and reply (R28, R29). -/
def decideEntryQuery (selector key : Nat) (s : State) : Decision :=
  if selector = (asc 'R').toNat then
    if s.table.run = .empty then .refuse .SA []
    else if key < 1 ∨ s.table.items.getD 0 < key then .refuse .RG []
    else s.table.answerEntry s (s.table.byRank key)
  else if selector = (asc 'C').toNat then
    if BitVec.ofNat 64 key = 0 then .refuse .RG []
    else if s.table.run = .empty then .refuse .SA []
    else s.table.answerEntry s (s.table.byCode (BitVec.ofNat 64 key))
  else .refuse .RG []

/-- ENTRY_QUERY (R29). -/
def execEntryQuery (s : State) : Host.Outcome State Fault Refusal :=
  takeRequest (fun r s => match r with
    | .qe selector key => some (decideEntryQuery selector key s)
    | _ => none) s

/-! ## QV (R45, R46) -/

/-- The entries a QV returns: those of the verdict, from the start rank upward, as many as the count. -/
def CountTable.verdictPage (c : CountTable) (v : Verdict) (start count : Nat) : List Entry :=
  (c.entries.filter (fun e => start ≤ e.rank && c.verdict e == some v)).take count

/-- The resume rank: the rank after the last entry returned when the count was reached before rank N,
otherwise 0 (R46). -/
def resumeRank (items count : Nat) (page : List Entry) : Nat :=
  match page.getLast? with
  | some e => if page.length = count ∧ e.rank < items then e.rank + 1 else 0
  | none => 0

/-- The fields of one entry in the QV reply (R46, R170). -/
def Entry.verdictFields (e : Entry) : List Field :=
  [.num e.rank, .code e.code, .num e.shelf, .num e.status.code, .locOpt (e.placement.map (·.loc)),
   .flag e.conflict, .flag e.recovered]

/-- QV's checks and reply (R45, R46). -/
def decideVerdictQuery (verdict start : Nat) (count : Option Nat) (s : State) : Decision :=
  match verdictOfCode verdict with
  | none => .refuse .RG []
  | some v =>
    if start < 1 then .refuse .RG []
    else if !s.table.run.hasVerdicts then .refuse .SA []
    else
      let page := s.table.verdictPage v start (pageCount count)
      .accept s (.num page.length :: .num (resumeRank (s.table.items.getD 0) (pageCount count) page) ::
        page.flatMap Entry.verdictFields)

/-- VERDICT_QUERY (R46). -/
def execVerdictQuery (s : State) : Host.Outcome State Fault Refusal :=
  takeRequest (fun r s => match r with
    | .qv verdict start count => some (decideVerdictQuery verdict start count s)
    | _ => none) s

/-! ## QH (R47, R48) -/

/-- A count that is given only while entries carry verdicts (R42, R48). -/
def CountTable.verdictCount (c : CountTable) (n : Nat) : Field :=
  if c.run.hasVerdicts then .num n else .absent

/-- The nine counts of R41 in the order of its table. -/
def CountTable.countFields (c : CountTable) (l : Loc) : List Field :=
  [.num (c.expectedCount l), .num (c.placementCount l), .num (c.listedCount l), .num (c.positionedCount l),
   .num (c.foreignCount l), .num (c.heardCount l), c.verdictCount (c.missingCount l),
   c.verdictCount (c.misorderedCount l), c.verdictCount (c.pendingCount l)]

/-- The fields of the QH reply (R48, R170). -/
def CountTable.locationFields (c : CountTable) (l : Loc) : List Field :=
  let r := c.recordAt l
  List.flatten [[.loc l, .num r.state.code, .num r.sweepCount, .num r.lastSweep], r.facts.fields,
    c.countFields l]

/-- QH's checks and reply (R47, R48). -/
def decideLocationQuery (number : Nat) (s : State) : Decision :=
  if s.table.run = .empty then .refuse .SA []
  else
    match s.table.locOfNumber number with
    | none => .refuse .RG [.num s.table.shelfCount]
    | some l => .accept s (s.table.locationFields l)

/-- LOCATION_QUERY (R48). -/
def execLocationQuery (s : State) : Host.Outcome State Fault Refusal :=
  takeRequest (fun r s => match r with
    | .qh number => some (decideLocationQuery number s)
    | _ => none) s

/-! ## TS (R165) -/

/-- The FROZEN fact of the last commit's target record; false while there is no last commit (R165). -/
def State.lastCommitFrozen (s : State) : Bool :=
  match s.sweep.lastCommit with
  | some l => (s.table.recordAt l.target).facts.frozen
  | none => false

/-- The eight categories, each with the number of its bit in the mask (R165). -/
def State.categories (s : State) : List (Nat × Bool) :=
  [(0, decide (0 < s.table.total .missing)), (1, decide (0 < s.table.total .misordered)),
   (2, !s.table.foreign.isEmpty), (3, s.monitor.active), (4, s.evidence.overrun),
   (5, s.port.drops != 0), (6, s.lastCommitFrozen), (7, s.link.reportsDropped != 0)]

/-- The mask of the selected categories that are true (R165). -/
def State.trueCategories (s : State) (mask : Nat) : Nat :=
  ((s.categories.filter (fun x => x.2 && mask.testBit x.1)).map (fun x => 2 ^ x.1)).sum

/-- TS's reply (R165). -/
def decideTestRequest (mask : Nat) (s : State) : Decision :=
  .accept s [.yesNo (s.trueCategories mask != 0), .num (s.trueCategories mask)]

/-- TEST_REQUEST (R165). -/
def execTestRequest (s : State) : Host.Outcome State Fault Refusal :=
  takeRequest (fun r s => match r with
    | .ts mask => some (decideTestRequest mask s)
    | _ => none) s

/-! ## CV (R166) -/

/-- CV's check and reply (R166). With no unswept shelf to name, its field is empty, as R170 has every OK reply
to one request carry the same number of fields (DEDUCED: entry 16). -/
def decideCoverageRequest (s : State) : Decision :=
  if !s.table.run.hasVerdicts then .refuse .SA []
  else
    match s.table.lowestUnswept with
    | none => .accept s [.yesNo true, .absent]
    | some t => .accept s [.yesNo false, .num t]

/-- COVERAGE_REQUEST (R166). -/
def execCoverageRequest (s : State) : Host.Outcome State Fault Refusal :=
  takeRequest (fun r s => match r with
    | .cv => some (decideCoverageRequest s)
    | _ => none) s

/-! ## QS (R167) -/

/-- The run group of the status summary. -/
def CountTable.statusFields (c : CountTable) : List Field :=
  [.num c.run.code, .opt c.items, .num c.load.filed, .num c.load.nextRank, .num c.shelfCount, .opt c.pMax,
   .num c.cursor, .num c.sweepNumber]

/-- The open-sweep record with the bleed ratio in force, in the order of R66's table. -/
def OpenRecord.statusFields (r : OpenRecord) : List Field :=
  [.num r.number, .locOpt r.target, (match r.mode with | some m => .mode m | none => .absent),
   .num r.facts.accepted, .num r.facts.dropped, .num r.facts.acrossAisle, .num r.sighted,
   .flag r.facts.partialMark, .flag r.facts.overtravel, .flag r.facts.frozen,
   .num r.outcomes.newPlacements, .num r.outcomes.movedIn, .num r.outcomes.keptElsewhere,
   .num r.outcomes.foreign, .num r.outcomes.foreignDropped, .num r.outcomes.heard, .opt r.bleed]

/-- The sweep group of the status summary. -/
def SweepUnit.statusFields (u : SweepUnit) : List Field :=
  List.flatten [[.num u.phase.code], u.record.statusFields,
    [.num u.sightings.length, .opt (u.lastCommit.map (·.number)), .locOpt (u.lastCommit.map (·.target)),
     .opt u.lastShelf]]

/-- The head sighting of the status summary: the oldest in the table (R85, R167). -/
def headSightingFields (sightings : List Sighting) : List Field :=
  match sightings with
  | [] => Field.absents 7
  | x :: _ =>
    [.code x.code, .num x.reads, .branch x.moment, .branch x.front, .branch x.back, .num x.scale,
     .flag x.frozen]

/-- The fifteen totals, absent in EMPTY and LOADING (R167). -/
def CountTable.totalFields (c : CountTable) : List Field :=
  if c.run.hasVerdicts then c.allTotals.map .num else Field.absents 15

/-- The evidence group of the status summary. -/
def EvidenceBuffer.statusFields (e : EvidenceBuffer) : List Field :=
  [.num e.mode.code, .num e.phase.code, .num e.records.length, .num e.watermark, .flag e.stopped,
   .flag e.frozen, .flag e.overrun, .flag e.aboveWatermark]

/-- The values of the status summary in the order of R167. -/
def State.statusFields (s : State) : List Field :=
  List.flatten [s.table.statusFields, s.sweep.statusFields, headSightingFields s.sweep.sightings,
    [.num s.port.position, .flag (s.port.dormancy == .dormant), .num s.port.drops],
    s.table.totalFields,
    [.num s.link.settings.floor, .num s.link.settings.bleed, .num s.link.settings.tolerance,
     .num s.link.settings.idleLimit],
    [.flag s.monitor.active], s.evidence.statusFields,
    [.flag (s.panel.switch == .localMode), .num s.link.reports.length, .num s.link.reportsDropped,
     .num s.link.refusalsLost, .num s.link.settings.streaming]]

/-- STATUS_REQUEST (R167). -/
def execStatusRequest (s : State) : Host.Outcome State Fault Refusal :=
  takeRequest (fun r s => match r with
    | .qs => some (.accept s s.statusFields)
    | _ => none) s

/-! ## QF (R168) -/

/-- The fields of one foreign entry in the QF reply (R168, R170). -/
def ForeignEntry.fields (f : ForeignEntry) : List Field :=
  .code f.code :: (f.placement.fields ++ [Field.num f.sighted])

/-- The resume index: the index after the last entry returned when the count was reached before the end of
the list, and 0 otherwise (R168). -/
def resumeIndex (listLength start count : Nat) : Nat :=
  if start + count ≤ listLength then start + count else 0

/-- QF's checks and reply (R168). -/
def decideForeignListQuery (start : Nat) (count : Option Nat) (s : State) : Decision :=
  if start = 0 then .refuse .RG []
  else if s.table.run = .empty then .refuse .SA []
  else
    let page := (s.table.foreign.drop (start - 1)).take (pageCount count)
    .accept s (.num page.length :: .num (resumeIndex s.table.foreign.length start (pageCount count)) ::
      page.flatMap ForeignEntry.fields)

/-- FOREIGN_LIST_QUERY (R168). -/
def execForeignListQuery (s : State) : Host.Outcome State Fault Refusal :=
  takeRequest (fun r s => match r with
    | .qf start count => some (decideForeignListQuery start count s)
    | _ => none) s

end Sys2Proof.Machine
end

