-- ==== Sys2Proof/Machine/EvidenceRequests.lean ====
section
/-! DEFINITION. The requests of the Evidence Buffer: EM and ER (section 10.5). -/

namespace Sys2Proof.Machine

/-- The phase a mode begins in, by the evidence trigger as it stands (R151). -/
def EvidenceMode.firstPhase (trigger : Bool) : EvidenceMode → EvidencePhase
  | .off => .none
  | .fill => .none
  | .roll => .none
  | .rollFreeze => if trigger then .freezing else .rolling
  | .armRoll => if trigger then .capturing else .armed

/-- EM's check and effect (R151). -/
def decideEvidenceModeRequest (mode watermark : Nat) (s : State) : Decision :=
  match evidenceModeOfCode mode with
  | none => .refuse .RG []
  | some m =>
    let taken := clamp 0 63 watermark
    .accept
      { s with evidence :=
          { records := [], mode := m, phase := m.firstPhase s.monitor.active, watermark := taken,
            stopped := false, overrun := false } }
      [.num mode, .num taken]

/-- EVIDENCE_MODE_REQUEST (R151). -/
def execEvidenceModeRequest (s : State) : Host.Outcome State Fault Refusal :=
  takeRequest (fun r s => match r with
    | .em mode watermark => some (decideEvidenceModeRequest mode watermark s)
    | _ => none) s

/-- The buffer after the removal of its oldest records, as many as the count or as it holds (R152). -/
def EvidenceBuffer.remove (count : Nat) (e : EvidenceBuffer) : EvidenceBuffer :=
  { e with records := e.records.drop count, overrun := e.overrun && e.records.isEmpty }

/-- ER's effect and reply (R152). The count taken is at least 1, so a record is removed unless none is held. -/
def decideEvidenceReadRequest (count : Option Nat) (s : State) : Decision :=
  let returned := s.evidence.records.take (pageCount count)
  let left := s.evidence.remove (pageCount count)
  .accept { s with evidence := left }
    (List.flatten [
      [.num returned.length, .num left.records.length, .flag left.stopped, .flag left.frozen,
       .flag left.overrun, .flag left.aboveWatermark],
      returned.flatMap StampedRead.fields])

/-- EVIDENCE_READ_REQUEST (R152). -/
def execEvidenceReadRequest (s : State) : Host.Outcome State Fault Refusal :=
  takeRequest (fun r s => match r with
    | .er count => some (decideEvidenceReadRequest count s)
    | _ => none) s

end Sys2Proof.Machine
end

