-- ==== Sys2Proof/Machine/LinkRequests.lean ====
section
/-! DEFINITION. The Link Unit's own events: characters and record completion, FE, BA and the barrier's
completion, RS, and the end of a transmission (chapter 11). -/

namespace Sys2Proof.Machine

/-- UART_CHARACTER: a character arrives (R155). -/
def execUartCharacter (c : Byte) (s : State) : Host.Outcome State Fault Refusal := finish (s.receive c)

/-- RECORD_COMPLETION: a terminator arrives (R155, R156). -/
def execRecordCompletion (t : Terminator) (s : State) : Host.Outcome State Fault Refusal :=
  finish (s.receive (terminatorChar t))

/-- TRANSMISSION_END: the record being sent ends and the next one waiting begins (R160). -/
def execTransmissionEnd (s : State) : Host.Outcome State Fault Refusal :=
  match s.link.sending with
  | some _ => finish { s with link := { s.link with sending := none } }
  | none => .next s

/-! ## FE (R161) -/

/-- The count of an FE: 1 to 16, clamped, 16 when absent (R161). -/
def fetchCount (count : Option Nat) : Nat :=
  match count with
  | some n => clamp 1 16 n
  | none => 16

/-- An FE taken to be performed: the allowance is set and the reply slot reserved; with no report waiting
the reply is placed at once (R161). -/
def State.fetch (count : Option Nat) (disp : Terminator) (s : State) : State :=
  let allowance := min (fetchCount count) s.link.reports.length
  let slot := if allowance = 0 then fetchReply 0 s.link.reports.length disp else .reserved 0 disp
  { s with link := { s.link with allowance := allowance, reply := slot } }

/-- FETCH_REQUEST (R161). -/
def execFetchRequest (s : State) : Host.Outcome State Fault Refusal :=
  match s.takeable with
  | some { req := .fe count, disp := disp } =>
    if disp = .check then finish (s.freeSlot.place .FE .CK []) else finish (s.freeSlot.fetch count disp)
  | _ => .next s

/-! ## BA (R164) -/

/-- A barrier completes: the slot frees, the barrier state returns to none, and the reply is placed as the
disposition asks (R158, R164). -/
def State.completeBarrier (disp : Terminator) (s : State) : State :=
  let freed := { s with link := { s.link with slot := none, barrier := none } }
  answer .BA disp freed (.accept freed (endedSweepFields (s.sweep.phase == .opened) s.sweep.record.number))

/-- BARRIER_REQUEST: a check replies CK at once; otherwise the barrier completes at the taking if its
condition holds, and else waits, holding the slot (R164). -/
def execBarrierRequest (s : State) : Host.Outcome State Fault Refusal :=
  match s.takeable with
  | some { req := .ba scope, disp := disp } =>
    if disp = .check ∨ s.barrierHolds scope = true then finish (s.completeBarrier disp)
    else finish { s with link := { s.link with barrier := some scope } }
  | _ => .next s

/-- BARRIER_COMPLETION: the waiting barrier's condition holds, and its reply goes before all else that waits
(R160, R164). -/
def execBarrierCompletion (s : State) : Host.Outcome State Fault Refusal :=
  match s.dueBarrier with
  | some held => finish (s.completeBarrier held.disp)
  | none => .next s

/-! ## RS (R169) -/

/-- RS abandons a sweep that is OPEN or in FINALIZE (R83). -/
def SweepUnit.abandonable (u : SweepUnit) : Bool := u.phase == .opened || u.phase == .finalize

/-- Every block's part of RS (R55, R63, R83, R142, R153, R169, R171). An RS that abandons a sweep sets RATE_LO
and BLEED_HI false with the other condition states, as R142's table says, against R132 (DEDUCED, unsafe:
entry 22). -/
def State.softReset (s : State) : State :=
  let s1 := if s.sweep.abandonable then s.abandonSweep else s
  { s1 with
    link := s1.link.softReset
    port := s1.port.reset
    monitor := s1.monitor.reset
    evidence := s1.evidence.reset }

/-- SOFT_RESET (R169). -/
def execSoftReset (s : State) : Host.Outcome State Fault Refusal :=
  takeRequest (fun r s => match r with
    | .rs => some (.accept s.softReset (endedSweepFields s.sweep.abandonable s.sweep.record.number))
    | _ => none) s

end Sys2Proof.Machine
end

