-- ==== Sys2Proof/Machine/MonitorRequests.lean ====
section
/-! DEFINITION. The requests of the Anomaly Monitor: AC, AM and AQ (section 9.5). -/

namespace Sys2Proof.Machine

/-- AC's checks and effect (R139). -/
def decideConditionRequest (code threshold enable : Nat) (s : State) : Decision :=
  match condOfCode code with
  | none => .refuse .RG []
  | some c =>
    if 1 < enable then .refuse .RG []
    else
      let held := s.monitor.conds.get c
      let taken := clamp 0 255 threshold
      let record : Condition := { held with threshold := taken, enabled := enable == 1 }
      .accept { s with monitor := { s.monitor with conds := s.monitor.conds.put c record } }
        [.num code, .num taken, .num enable, .flag held.state]

/-- CONDITION_REQUEST (R139). -/
def execConditionRequest (s : State) : Host.Outcome State Fault Refusal :=
  takeRequest (fun r s => match r with
    | .ac code threshold enable => some (decideConditionRequest code threshold enable s)
    | _ => none) s

/-- The combine mode a code names (R140). -/
def combineOfCode : Nat → Option CombineMode
  | 0 => some .any
  | 1 => some .all
  | _ => none

/-- The code of a combine mode (R140). -/
def CombineMode.code : CombineMode → Nat
  | .any => 0
  | .all => 1

/-- AM's checks and effect (R140). -/
def decideModeRequest (combine latch duration : Nat) (s : State) : Decision :=
  match combineOfCode combine with
  | none => .refuse .RG []
  | some c =>
    if 1 < latch then .refuse .RG []
    else
      let taken := clamp 0 15 duration
      .accept
        { s with monitor := { s.monitor with
            combine := c, latched := latch == 1, duration := taken, counter := 0 } }
        [.num combine, .num latch, .num taken]

/-- MODE_REQUEST (R140). -/
def execModeRequest (s : State) : Host.Outcome State Fault Refusal :=
  takeRequest (fun r s => match r with
    | .am combine latch duration => some (decideModeRequest combine latch duration s)
    | _ => none) s

/-- The threshold, enable and state of a condition in the AQ reply (R141). -/
def Condition.fields (c : Condition) : List Field := [.num c.threshold, .flag c.enabled, .flag c.state]

/-- The fields of the AQ reply (R141, R170). -/
def Monitor.statusFields (m : Monitor) : List Field :=
  List.flatten [
    [.flag m.active, .num m.combine.code, .flag m.latched, .num m.duration, .num m.counter],
    CondCode.all.flatMap (fun c => (m.conds.get c).fields),
    (match m.source with | some r => r.fields | none => Field.absents 4)]

/-- AQ's effect: a latched active anomaly ends, its counter 0, its source record kept (R141). -/
def State.acknowledge (s : State) : State :=
  if s.monitor.latched && s.monitor.active then
    ({ s with monitor := { s.monitor with counter := 0 } }).deactivate
  else s

/-- ACKNOWLEDGE_REQUEST (R141). -/
def execAcknowledgeRequest (s : State) : Host.Outcome State Fault Refusal :=
  takeRequest (fun r s => match r with
    | .aq => some (.accept s.acknowledge s.monitor.statusFields)
    | _ => none) s

end Sys2Proof.Machine
end

