-- ==== Sys2Proof/Machine/OrderWork.lean ====
section
/-! DEFINITION. The completions of order jobs (chapter 7). -/

namespace Sys2Proof.Machine

/-- The entries of a job's sequence take the shelf standing of its read-back (R109). -/
def writeShelfStandings (piles : Piles) (entries : List Entry) : List Entry :=
  entries.map (fun e => if e.rank ∈ piles.ranks then { e with shelfStanding := piles.standing e.rank } else e)

/-- A shelf job completes: standings written, the shelf off the list, and the next job begun or ORDER
completed (R109). -/
def State.completeShelfJob (s : State) : State :=
  let entries := writeShelfStandings s.order.piles s.table.entries
  let jobs := s.order.jobs.tail
  let s1 := { s with
    table := { s.table with entries := entries }
    order := OrderUnit.beginShelf entries s.link.settings.tolerance jobs }
  if jobs.isEmpty then s1.completeOrder else s1

/-- SHELF_JOB_COMPLETION (R109). -/
def execShelfJobCompletion (s : State) : Host.Outcome State Fault Refusal :=
  match s.order.current with
  | .shelf _ => finish s.completeShelfJob
  | _ => .next s

/-- The run-wide job's standings: IN or OUT for its sequence, NONE for every other entry (R112). -/
def writeRunStandings (piles : Piles) (entries : List Entry) : List Entry :=
  entries.map (fun e =>
    { e with runStanding := if e.rank ∈ piles.ranks then piles.standing e.rank else .none })

/-- The run-wide job completes: standings written, the run CLOSED, and RND queued with the totals that run
standing then gives (R5, R112). -/
def State.completeRunJob (s : State) : State :=
  let table := { s.table with run := .closed, entries := writeRunStandings s.order.piles s.table.entries }
  ({ s with table := table, order := OrderUnit.cleared }).report
    (.rnd (table.items.getD 0) table.totals)

/-- RUN_WIDE_JOB_COMPLETION (R112). -/
def execRunWideJobCompletion (s : State) : Host.Outcome State Fault Refusal :=
  match s.order.current with
  | .run => finish s.completeRunJob
  | _ => .next s

end Sys2Proof.Machine
end

