-- ==== Sys2Proof/Machine/Panel.lean ====
section
/-! DEFINITION. The wand panel: the keys, the mode switch, the buzzer's pattern end, the idle expiry with
its beeps, and the readout (chapter 12, R74). -/

namespace Sys2Proof.Machine

/-- An open attempt: the sweep opens on the cursor shelf, NEW when its sweep count is 0 and RECOUNT
otherwise, when the run is OPEN and the cursor is a shelf; else two short beeps (R68). -/
def State.openAttempt (s : State) : State :=
  if s.table.run = .opened ∧ s.table.isShelf s.table.cursor = true then
    s.openSweep (.shelf s.table.cursor) (if s.table.sweepCount s.table.cursor = 0 then .new else .recount)
  else s.buzz .twoShort

/-- What a press of the trigger does once the controller is awake: the table of R173. During the filing of a
list item in OPEN it acts by that table, against the ground R22 and R173 give for two short beeps, a run not
OPEN (DEDUCED, unsafe: entry 21). -/
def State.pressTrigger (s : State) : State :=
  match s.panel.switch, s.sweep.phase with
  | .localMode, .idle => s.openAttempt
  | .localMode, .opened => s.endSweep
  | _, _ => s.buzz .twoShort

/-- TRIGGER_PRESS: the wake, then the press (R62, R173). -/
def execTriggerPress (s : State) : Host.Outcome State Fault Refusal :=
  finish (s.wake .trigger).pressTrigger

/-- What a press of CALL does once the controller is awake: a CAL is queued unless one is pending (R174). -/
def State.pressCall (s : State) : State := if s.link.callPending then s else s.report .cal

/-- CALL_PRESS: the wake, then the press (R62, R174). -/
def execCallPress (s : State) : Host.Outcome State Fault Refusal := finish (s.wake .call).pressCall

/-- MODE_SWITCH_CHANGE: the state is the new position; nothing else changes (R172). -/
def execModeSwitchChange (p : SwitchPosition) (s : State) : Host.Outcome State Fault Refusal :=
  finish { s with panel := { s.panel with switch := p } }

/-- BUZZER_PATTERN_END: the oldest waiting pattern begins (R176). -/
def execBuzzerPatternEnd (s : State) : Host.Outcome State Fault Refusal :=
  match s.panel.sounding with
  | none => .next s
  | some _ =>
    finish { s with panel := { s.panel with
      sounding := s.panel.waiting.head?, waiting := s.panel.waiting.tail } }

/-- IDLE_EXPIRY: with the Sweep Unit OPEN the sweep is abandoned with cause IDLE, an SWA is queued and three
short beeps sound; in every other state no expiry occurs (R74). -/
def execIdleExpiry (s : State) : Host.Outcome State Fault Refusal :=
  match s.sweep.phase with
  | .opened => finish ((s.abandonSweep.report (s.sweep.swa .idle)).buzz .threeShort)
  | _ => .next s

/-! ## The readout (R175) -/

/-- The value shown under the readout selection; none where four dashes are shown (R175). -/
def State.readoutValue (s : State) : Option Nat :=
  match s.link.settings.readout with
  | 0 => if s.table.cursor = 0 then none else some s.table.cursor
  | 1 => some s.sweep.sightings.length
  | 2 => s.sweep.lastShelf.map (fun t => s.table.missingCount (.shelf t))
  | _ => if s.table.run = .empty then none else some s.table.unsweptCount

/-- The decimal digits of a number below 10,000, most significant first, put before `tail`. -/
def decimalOnto : Nat → Nat → List Byte → List Byte
  | 0, _, tail => tail
  | fuel + 1, n, tail =>
    let digit := BitVec.ofNat 8 (48 + n % 10)
    if n < 10 then digit :: tail else decimalOnto fuel (n / 10) (digit :: tail)

/-- The four characters of the readout: the value in decimal, right-aligned with blanks before it, or four
dashes (R175). -/
def State.readout (s : State) : List Byte :=
  match s.readoutValue with
  | none => List.replicate 4 (asc '-')
  | some n =>
    let digits := decimalOnto 4 n []
    List.replicate (4 - digits.length) (asc ' ') ++ digits

end Sys2Proof.Machine
end

