-- ==== Sys2Proof/Machine/Port.lean ====
section
/-! DEFINITION. The Read Port's events: a read from the tag receiver and an encoder count (chapter 4),
with the rate window they feed (R72). -/

namespace Sys2Proof.Machine

/-- The antenna of a mark that names one (R49). -/
def antennaOf : AntennaMark → Option Antenna
  | .front => some .front
  | .back => some .back
  | .other => none

/-- A read of sound form: code, strength and antenna. None when the read is malformed or its code is zero
(R49). -/
def soundRead (r : DeliveredRead) : Option (ItemCode × BitVec 8 × Antenna) :=
  match r.damaged, r.code, r.strength, r.antenna.bind antennaOf with
  | false, some c, some s, some a => if c = 0 then none else some (c, s, a)
  | _, _, _, _ => none

/-- The port drop counter increments, saturating (R49, R53). -/
def ReadPort.drop (p : ReadPort) : ReadPort := { p with drops := satInc Config.count16Max p.drops }

/-- The open sweep's reads-dropped count increments, saturating (R53, R66, R71). -/
def OpenRecord.countDropped (r : OpenRecord) : OpenRecord :=
  { r with facts := { r.facts with dropped := satInc Config.count16Max r.facts.dropped } }

/-- The open sweep's reads-accepted count increments, saturating (R52, R66). -/
def OpenRecord.countAccepted (r : OpenRecord) : OpenRecord :=
  { r with facts := { r.facts with accepted := satInc Config.count16Max r.facts.accepted } }

/-- The read stamped with the position counter and the open sweep's target and number (R51). -/
def State.stamp (target : Loc) (code : ItemCode) (strength : BitVec 8) (antenna : Antenna) (s : State) :
    StampedRead :=
  { code := code, strength := strength, antenna := antenna, position := s.port.position,
    target := target, sweep := s.sweep.record.number }

/-- A read accepted counts toward the rate window in progress (R72). -/
def RateWindow.countRead (w : RateWindow) : RateWindow := { w with count := w.count + 1 }

/-- A read accepted into the queue: it joins at the end, is counted, restarts the idle timer, counts toward
the rate window, and its copy is offered to the Evidence Buffer (R52). -/
def State.acceptRead (r : StampedRead) (s : State) : State :=
  ({ s with
     port := { s.port with queue := s.port.queue ++ [r] }
     sweep := { s.sweep with
       record := s.sweep.record.countAccepted
       idleTimer := some s.link.settings.idleLimit
       rateWindow := s.sweep.rateWindow.map RateWindow.countRead } }).offerCopy r

/-- A read dropped at the full queue: counted by the sweep and by the port (R53). -/
def State.dropAtQueue (s : State) : State :=
  { s with
    port := s.port.drop
    sweep := { s.sweep with record := s.sweep.record.countDropped } }

/-- A read arrives: form check, then acceptance, a drop at the full queue, or a discard (R49 to R53). During
the filing of a list item in OPEN it acts by the sweep there is (R50, against R22; DEDUCED, unsafe: entry 21). -/
def State.arriveRead (r : DeliveredRead) (s : State) : State :=
  match soundRead r with
  | none => { s with port := s.port.drop }
  | some (code, strength, antenna) =>
    match s.sweep.phase, s.sweep.record.target with
    | .opened, some target =>
      if s.port.queue.length < Config.readQueueSize then s.acceptRead (s.stamp target code strength antenna)
      else s.dropAtQueue
    | _, _ => s

/-- TAG_READ. A DORMANT receiver is powered down and delivers no read (R61; DEDUCED,
unsafe: entry 11). -/
def execTagRead (r : DeliveredRead) (s : State) : Host.Outcome State Fault Refusal :=
  match s.port.dormancy with
  | .dormant => .next s
  | .awake => finish (s.arriveRead r)

/-! ## The encoder (R56 to R58, R72) -/

/-- The counter after a count, between 0 and P_max (R56). -/
def movePosition (d : Direction) (pMax position : Nat) : Nat :=
  match d with
  | .forward => if position < pMax then position + 1 else pMax
  | .backward => position - 1

/-- The count is a clamp at P_max: a forward count with the counter already there (R56, R57). -/
def clampsAtMax (d : Direction) (pMax position : Nat) : Bool := d == .forward && pMax ≤ position

/-- A window closes when the new position equals its start plus 100 (R72). -/
def RateWindow.closes (w : RateWindow) (position : Nat) : Bool :=
  position == w.start + Config.rateWindowLength

/-- The Sweep Unit takes a delivered count of a shelf sweep: the idle timer restarts, and a rate window
whose end the new position reaches closes, RATE_LO being evaluated with its count (R72, R73). -/
def State.deliverCount (target : Loc) (s : State) : State :=
  let s1 := s.restartIdle
  match s1.sweep.rateWindow with
  | none => s1
  | some w =>
    if w.closes s1.port.position then
      let next : RateWindow := { start := w.start + Config.rateWindowLength, count := 0 }
      ({ s1 with sweep := { s1.sweep with rateWindow := some next } }).evaluate .rate target
        s1.sweep.record.number [(.rateLo, w.count)]
    else s1

/-- An encoder count taken in an open shelf sweep (R56, R57). -/
def State.moveCounter (d : Direction) (target : Loc) (s : State) : State :=
  let pMax := s.table.pMax.getD 0
  let facts := s.sweep.record.facts
  ({ s with
     port := { s.port with position := movePosition d pMax s.port.position }
     sweep := { s.sweep with record := { s.sweep.record with
       facts := { facts with overtravel := facts.overtravel || clampsAtMax d pMax s.port.position } } } }
   ).deliverCount target

/-- ENCODER_COUNT: in an open shelf sweep the count moves or clamps the counter; in an open loose sweep it
is movement alone; otherwise it is ignored (R56, R58). -/
def execEncoderCount (d : Direction) (s : State) : Host.Outcome State Fault Refusal :=
  match s.sweep.phase, s.sweep.record.target with
  | .opened, some (.shelf t) => finish (s.moveCounter d (.shelf t))
  | .opened, some (.loose _) => finish s.restartIdle
  | _, _ => .next s

end Sys2Proof.Machine
end

