-- ==== Sys2Proof/Machine/Power.lean ====
section
/-! DEFINITION. The application of supply (R1). -/

namespace Sys2Proof.Machine

/-- POWER_ON: every block at its power-on value, the strap and the mode switch read as they stand. The
queue of commands is the model's own and stays. -/
def execPowerOn (strap : BaudRate) (switch : SwitchPosition) (s : State) :
    Host.Outcome State Fault Refusal :=
  .next (State.powerOn strap switch s.pending)

end Sys2Proof.Machine
end

