-- ==== Sys2Proof/Machine/RunRequests.lean ====
section
/-! DEFINITION. The requests of the run and its expected list: RB, LI and its filing, CR, RO, DR, SC and
CN (chapters 1, 2 and 8). -/

namespace Sys2Proof.Machine

/-! ## RB, CR, RO, DR and SC (chapter 1) -/

/-- The ranges of RB's fields (R2). -/
def geometryInRange (bays levels width items : Nat) : Bool :=
  1 ≤ bays && bays ≤ 12 && 1 ≤ levels && levels ≤ 8 && 600 ≤ width && width ≤ 1200 &&
  1 ≤ items && items ≤ 2048

/-- The Count Table at an accepted RB: geometry stored, records cleared, LOADING (R2, R19). -/
def CountTable.beginRun (c : CountTable) (g : Geometry) : CountTable :=
  { c with
    run := .loading, geometry := some g, load := LoadRecord.start,
    shelves := CountTable.cleared.shelves, loose := CountTable.cleared.loose }

/-- RB's checks and effect (R2). -/
def decideRunBegin (bays levels width items : Nat) (s : State) : Decision :=
  if !geometryInRange bays levels width items then .refuse .RG []
  else if s.table.run ≠ .empty then .refuse .SA []
  else
    .accept
      { s with table := s.table.beginRun { bays := bays, levels := levels, width := width, items := items } }
      []

/-- RUN_BEGIN (R2). -/
def execRunBegin (s : State) : Host.Outcome State Fault Refusal :=
  takeRequest (fun r s => match r with
    | .rb b v w n => some (decideRunBegin b v w n s)
    | _ => none) s

/-- The Order Unit and the run state at an accepted CR: CLOSING, the run-wide job begun (R4, R111). -/
def State.beginClose (s : State) : State :=
  { s with
    table := { s.table with run := .closing }
    order := OrderUnit.beginRun s.table.entries s.link.settings.tolerance s.table.shelfNumbers }

/-- CR's checks and effect (R4). -/
def decideRunClose (force : Nat) (s : State) : Decision :=
  if 1 < force then .refuse .RG []
  else if s.table.run ≠ .opened then .refuse .SA []
  else if s.sweep.phase ≠ .idle then .refuse .BY []
  else
    match s.table.lowestUnswept with
    | some t => if force = 1 then .accept s.beginClose [] else .refuse .US [.num t]
    | none => .accept s.beginClose []

/-- RUN_CLOSE (R4). -/
def execRunClose (s : State) : Host.Outcome State Fault Refusal :=
  takeRequest (fun r s => match r with
    | .cr force => some (decideRunClose force s)
    | _ => none) s

/-- The Count Table at an accepted RO: every run standing NONE, OPEN (R6). -/
def CountTable.reopen (c : CountTable) : CountTable :=
  { c with run := .opened, entries := c.entries.map (fun e => { e with runStanding := .none }) }

/-- RO's check and effect (R6). -/
def decideRunReopen (s : State) : Decision :=
  if s.table.run ≠ .closed then .refuse .SA []
  else .accept { s with table := s.table.reopen } []

/-- RUN_REOPEN (R6). -/
def execRunReopen (s : State) : Host.Outcome State Fault Refusal :=
  takeRequest (fun r s => match r with
    | .ro => some (decideRunReopen s)
    | _ => none) s

/-- Every block's part of DR (R7, R64, R83, R102, R142, R153, R171). -/
def State.discardRun (s : State) : State :=
  { s with
    link := s.link.discardRun
    port := s.port.reset
    sweep := SweepUnit.cleared
    table := s.table.discard
    order := OrderUnit.cleared
    monitor := s.monitor.reset
    evidence := s.evidence.reset }

/-- DR's effect and the fields of its reply: a sweep in any state but IDLE is ended (R7, R83). -/
def decideDiscardRun (s : State) : Decision :=
  .accept s.discardRun (endedSweepFields (s.sweep.phase != .idle) s.sweep.record.number)

/-- DISCARD_RUN (R7). -/
def execDiscardRun (s : State) : Host.Outcome State Fault Refusal :=
  takeRequest (fun r s => match r with
    | .dr => some (decideDiscardRun s)
    | _ => none) s

/-- SC's checks and effect (R14). -/
def decideCursorSet (shelf : Nat) (s : State) : Decision :=
  if !s.table.isShelf shelf then .refuse .RG []
  else if !s.table.run.hasVerdicts then .refuse .SA []
  else .accept { s with table := { s.table with cursor := shelf } } [.num shelf]

/-- CURSOR_SET (R14). -/
def execCursorSet (s : State) : Host.Outcome State Fault Refusal :=
  takeRequest (fun r s => match r with
    | .sc shelf => some (decideCursorSet shelf s)
    | _ => none) s

/-! ## LI and its filing (chapter 2) -/

/-- LIST_ITEM: the LI is taken, its filing begins, and it keeps the holding slot (R22). -/
def execListItem (s : State) : Host.Outcome State Fault Refusal :=
  match s.takeable with
  | some { req := .li .., disp := _ } => finish { s with link := { s.link with filing := true } }
  | _ => .next s

/-- The expected entry a list item files, with the count state of R16. -/
def fileEntry (rank : Nat) (code : ItemCode) (shelf : Nat) (status : CircStatus) (watch : Bool) : Entry :=
  { rank := rank, code := code, shelf := shelf, watch := watch, status := status, placement := none,
    shelfStanding := .none, runStanding := .none, inSweep := false, lentSince := false,
    returned := .clear }

/-- The load record after the filing of a rank: the next rank is 0 after rank N (R19). -/
def LoadRecord.advance (l : LoadRecord) (items rank shelf : Nat) : LoadRecord :=
  { nextRank := if rank = items then 0 else rank + 1, filed := l.filed + 1, prevShelf := some shelf }

/-- The Count Table with an entry filed; the filing of rank N seals the list (R3, R23, R24). -/
def CountTable.file (c : CountTable) (items : Nat) (e : Entry) : CountTable :=
  { c with
    entries := c.entries ++ [e]
    load := c.load.advance items e.rank e.shelf
    run := if e.rank = items then .opened else c.run
    cursor := if e.rank = items then 1 else c.cursor }

/-- LI's checks, in the order of R21, and its effect (R21, R23). -/
def decideListItem (rank code shelf status watch : Nat) (s : State) : Decision :=
  let item : ItemCode := BitVec.ofNat 64 code
  match statusOfCode status, s.table.geometry with
  | none, _ => .refuse .RG []
  | some st, g =>
    if item = 0 ∨ 1 < watch then .refuse .RG []
    else if s.table.run ≠ .loading then .refuse .SA [.num s.table.run.code]
    else if !s.table.isShelf shelf then .refuse .RG [.num s.table.shelfCount]
    else if rank ≠ s.table.load.nextRank then .refuse .SQ [.num s.table.load.nextRank]
    else
      match s.table.byCode item with
      | some held => .refuse .DP [.num held.rank]
      | none =>
        if shelf < s.table.load.prevShelf.getD 0 then .refuse .OR [.opt s.table.load.prevShelf]
        else
          let table := s.table.file ((g.map Geometry.items).getD 0) (fileEntry rank item shelf st (watch == 1))
          .accept { s with table := table } [.num rank, .num table.load.nextRank]

/-- The filing ends and the holding slot frees (R23). -/
def State.endFiling (s : State) : State :=
  { s with link := { s.link with slot := none, filing := false } }

/-- LIST_ITEM_FILING_COMPLETION (R23). -/
def execListItemFilingCompletion (s : State) : Host.Outcome State Fault Refusal :=
  if s.link.filing then
    match s.link.slot with
    | some { req := .li rank code shelf status watch, disp := d } =>
      finish (answer .LI d s.endFiling (decideListItem rank code shelf status watch s.endFiling))
    | _ => .next s
  else .next s

/-! ## CN (section 2.5 and chapter 8) -/

/-- The returned window of shelf t is open: a sweep targeting t is OPEN, in FINALIZE, or in COMMIT before
its commit event (R120). -/
def SweepUnit.windowOpen (u : SweepUnit) (t : Nat) : Bool :=
  (u.phase == .opened || u.phase == .finalize || u.phase == .commit) && u.record.target == some (.shelf t)

/-- RETURNED_SINCE of an unplaced entry made AVAILABLE (R120). -/
def returnedMark (windowOpen : Bool) (sweepCount : Nat) (held : Returned) : Returned :=
  if windowOpen then .setDuring else if 1 ≤ sweepCount then .set else held

/-- The mark step of a new status (R118 to R121). -/
def Entry.markStep (windowOpen : Bool) (sweepCount : Nat) (status : CircStatus) (e : Entry) : Entry :=
  match status with
  | .onLoan => { e with lentSince := e.lentSince || e.placement.isSome || e.inSweep }
  | .inTransit => { e with lentSince := e.lentSince || e.placement.isSome || e.inSweep }
  | .available =>
    { e with
      lentSince := false
      returned := if e.placement.isSome then e.returned else returnedMark windowOpen sweepCount e.returned }
  | .declaredMissing => e

/-- An accepted notice on an entry. In LOADING the status alone is set; a notice of the status already held
changes nothing (R31, R118). -/
def Entry.notice (run : RunState) (windowOpen : Bool) (sweepCount : Nat) (status : CircStatus) (e : Entry) :
    Entry :=
  if run = .loading then { e with status := status }
  else if e.status = status then e
  else Entry.markStep windowOpen sweepCount status { e with status := status }

/-- The table with the notice applied to the entry holding a code. -/
def CountTable.notice (c : CountTable) (u : SweepUnit) (code : ItemCode) (status : CircStatus) : CountTable :=
  { c with entries := c.entries.map (fun e =>
      if e.code == code then e.notice c.run (u.windowOpen e.shelf) (c.sweepCount e.shelf) status else e) }

/-- CN's checks and effect (R30, R31, R117, R118). -/
def decideCirculationNotice (code status : Nat) (s : State) : Decision :=
  let item : ItemCode := BitVec.ofNat 64 code
  match statusOfCode status with
  | none => .refuse .RG []
  | some st =>
    if item = 0 then .refuse .RG []
    else if s.table.run = .empty then .refuse .SA []
    else
      match s.table.byCode item with
      | none => .refuse .NF []
      | some e => .accept { s with table := s.table.notice s.sweep item st } [.num e.rank, .num st.code]

/-- CIRCULATION_NOTICE (R117, R118). -/
def execCirculationNotice (s : State) : Host.Outcome State Fault Refusal :=
  takeRequest (fun r s => match r with
    | .cn code status => some (decideCirculationNotice code status s)
    | _ => none) s

end Sys2Proof.Machine
end

