-- ==== Sys2Proof/Machine/SettingRequests.lean ====
section
/-! DEFINITION. The eight settings of ST, one command each (R163). -/

namespace Sys2Proof.Machine

/-- An ST taken as setting `id` of range `lo` to `hi`: the value is clamped to the nearer end and the
setting takes it at this event. An ST whose id is outside 01 to 08 names no setting and is refused with RG
by whichever of the eight commands takes it (R163; DESIGN CHOICE, safe: entry 10). -/
def decideSetting (id lo hi : Nat) (put : Nat → Settings → Settings) (r : Request) (s : State) :
    Option Decision :=
  match r with
  | .st i v =>
    if i = id then
      let taken := clamp lo hi v
      some (.accept { s with link := { s.link with settings := put taken s.link.settings } }
        [.num i, .num taken])
    else if i < 1 ∨ 8 < i then some (.refuse .RG [])
    else none
  | _ => none

/-- ST_STRENGTH_FLOOR: id 01, 0 to 254 (R59). -/
def execStStrengthFloor (s : State) : Host.Outcome State Fault Refusal :=
  takeRequest (decideSetting 1 0 254 (fun v t => { t with floor := v })) s

/-- ST_BLEED_RATIO: id 02, 1 to 64 (R89). -/
def execStBleedRatio (s : State) : Host.Outcome State Fault Refusal :=
  takeRequest (decideSetting 2 1 64 (fun v t => { t with bleed := v })) s

/-- ST_ORDER_TOLERANCE: id 03, 10 to 200 (R92, R116). -/
def execStOrderTolerance (s : State) : Host.Outcome State Fault Refusal :=
  takeRequest (decideSetting 3 10 200 (fun v t => { t with tolerance := v })) s

/-- ST_IDLE_LIMIT: id 04, 5 to 120 seconds; the timer already running keeps the limit it was started with
(R73). -/
def execStIdleLimit (s : State) : Host.Outcome State Fault Refusal :=
  takeRequest (decideSetting 4 5 120 (fun v t => { t with idleLimit := v })) s

/-- ST_ATTENTION_MODE: id 05, 0 to 2 (R162). -/
def execStAttentionMode (s : State) : Host.Outcome State Fault Refusal :=
  takeRequest (decideSetting 5 0 2 (fun v t => { t with attnMode := v })) s

/-- ST_ATTENTION_ENABLES: id 06, 0 to 3 (R162). -/
def execStAttentionEnables (s : State) : Host.Outcome State Fault Refusal :=
  takeRequest (decideSetting 6 0 3 (fun v t => { t with attnEnable := v })) s

/-- ST_STREAMING: id 07, 0 to 1 (R160). -/
def execStStreaming (s : State) : Host.Outcome State Fault Refusal :=
  takeRequest (decideSetting 7 0 1 (fun v t => { t with streaming := v })) s

/-- ST_READOUT_SELECTION: id 08, 0 to 3 (R175). -/
def execStReadoutSelection (s : State) : Host.Outcome State Fault Refusal :=
  takeRequest (decideSetting 8 0 3 (fun v t => { t with readout := v })) s

end Sys2Proof.Machine
end

