-- ==== Sys2Proof/Machine/SweepRequests.lean ====
section
/-! DEFINITION. The requests that reach the sweep and the Read Port: OS, ES, AS (chapter 5) and DO
(chapter 4). -/

namespace Sys2Proof.Machine

/-- OS's checks and effect (R67). -/
def decideOpenRequest (target mode : Nat) (s : State) : Decision :=
  match modeOfLetter mode with
  | none => .refuse .RG []
  | some m =>
    if s.panel.switch ≠ .remote then .refuse .LC []
    else if s.table.run ≠ .opened then .refuse .SA [.num s.table.run.code]
    else if s.sweep.phase ≠ .idle then .refuse .BY [.num s.sweep.phase.code, .num s.sweep.record.number]
    else
      match s.table.locOfNumber target with
      | none => .refuse .RG [.num s.table.shelfCount]
      | some l =>
        .accept (s.openSweep l m) [.num (nextSweepNumber s.table.sweepNumber), .loc l, .mode m]

/-- OPEN_REQUEST (R67). -/
def execOpenRequest (s : State) : Host.Outcome State Fault Refusal :=
  takeRequest (fun r s => match r with
    | .os target mode => some (decideOpenRequest target mode s)
    | _ => none) s

/-- ES's checks and effect (R75). -/
def decideEndRequest (s : State) : Decision :=
  if s.panel.switch ≠ .remote then .refuse .LC []
  else if s.sweep.phase ≠ .opened then .refuse .SA [.num s.sweep.phase.code]
  else .accept s.endSweep [.num s.sweep.record.number]

/-- END_REQUEST (R75). -/
def execEndRequest (s : State) : Host.Outcome State Fault Refusal :=
  takeRequest (fun r s => match r with
    | .es => some (decideEndRequest s)
    | _ => none) s

/-- AS's checks and effect (R82). -/
def decideAbandonRequest (s : State) : Decision :=
  match s.sweep.phase with
  | .idle => .refuse .SA [.num s.sweep.phase.code]
  | .commit => .refuse .BY [.num s.sweep.phase.code]
  | .order => .refuse .BY [.num s.sweep.phase.code]
  | .opened => .accept (s.abandonSweep.report (s.sweep.swa .host)) [.num s.sweep.record.number]
  | .finalize => .accept (s.abandonSweep.report (s.sweep.swa .host)) [.num s.sweep.record.number]

/-- ABANDON_REQUEST (R82). -/
def execAbandonRequest (s : State) : Host.Outcome State Fault Refusal :=
  takeRequest (fun r s => match r with
    | .as => some (decideAbandonRequest s)
    | _ => none) s

/-- DO's check and effect (R61). -/
def decideDormancyRequest (s : State) : Decision :=
  if s.sweep.phase ≠ .idle then .refuse .SA [.num s.sweep.phase.code]
  else .accept { s with port := { s.port with dormancy := .dormant } } []

/-- DORMANCY_REQUEST (R61). -/
def execDormancyRequest (s : State) : Host.Outcome State Fault Refusal :=
  takeRequest (fun r s => match r with
    | .dorm => some (decideDormancyRequest s)
    | _ => none) s

end Sys2Proof.Machine
end

