-- ==== Sys2Proof/Machine/SweepWork.lean ====
section
/-! DEFINITION. The Sweep Unit's own work: folding reads into sightings, and FINALIZE's evaluation and
hand-off (chapters 5 and 6). -/

namespace Sys2Proof.Machine

/-! ## The fold (R60, R71, R86 to R88) -/

/-- The weight of a read of a strength under the floor in force (R60). -/
def readWeight (floor : Nat) (strength : BitVec 8) : Nat := strength.toNat - floor

/-- The additions of a fold to moment, front weight and back weight (R86). -/
structure Additions where
  moment : Nat
  front  : Nat
  back   : Nat
  deriving DecidableEq, Repr

/-- The additions of a read of a weight, position and antenna (R86). -/
def additionsOf (antenna : Antenna) (weight position : Nat) : Additions :=
  match antenna with
  | .front => { moment := weight * position, front := weight, back := 0 }
  | .back => { moment := 0, front := 0, back := weight }

/-- No branch would pass 2^32 - 1 (R86). -/
def Sighting.fits (x : Sighting) (a : Additions) : Bool :=
  x.moment + a.moment ≤ Config.branchMax && x.front + a.front ≤ Config.branchMax &&
  x.back + a.back ≤ Config.branchMax

/-- The additions made (R86). -/
def Sighting.add (x : Sighting) (a : Additions) : Sighting :=
  { x with moment := x.moment + a.moment, front := x.front + a.front, back := x.back + a.back }

/-- A renormalisation: all three branches halved, rounded down, and the scale one more (R87). -/
def Sighting.halve (x : Sighting) : Sighting :=
  { x with moment := x.moment / 2, front := x.front / 2, back := x.back / 2, scale := x.scale + 1 }

/-- The branches after a fold: added to, renormalised and added to, or frozen (R86 to R88). -/
def Sighting.accumulate (x : Sighting) (a : Additions) : Sighting :=
  if x.frozen then x
  else if x.fits a then x.add a
  else if x.scale < Config.scaleMax then x.halve.add a
  else { x with frozen := true }

/-- A fold: the branches, and the read count one more in every case (R86 to R88). -/
def Sighting.fold (x : Sighting) (a : Additions) : Sighting :=
  { x.accumulate a with reads := satInc Config.count16Max x.reads }

/-- A sighting as created for a code (R71). -/
def newSighting (code : ItemCode) (kind : SightingKind) : Sighting :=
  { code := code, kind := kind, reads := 0, moment := 0, front := 0, back := 0, scale := 0,
    frozen := false }

/-- The kind of a new sighting: listed when the lookup by code finds an expected entry (R71). -/
def CountTable.kindOf (c : CountTable) (code : ItemCode) : SightingKind :=
  match c.byCode code with
  | some e => .listed e.rank
  | none => .foreign

/-- The IN_SWEEP mark set on the entry holding a code (R71). -/
def CountTable.markSighted (c : CountTable) (code : ItemCode) : CountTable :=
  { c with entries := c.entries.map (fun e => if e.code == code then { e with inSweep := true } else e) }

/-- The read folded into the sighting of its code. -/
def foldInto (code : ItemCode) (a : Additions) (table : List Sighting) : List Sighting :=
  table.map (fun x => if x.code == code then x.fold a else x)

/-- The sighting table holds the code. -/
def isSighted (code : ItemCode) (table : List Sighting) : Bool := table.any (fun x => x.code == code)

/-- FROZEN is set once some sighting has frozen (R66, R88). -/
def OpenRecord.noteFrozen (r : OpenRecord) (table : List Sighting) : OpenRecord :=
  { r with facts := { r.facts with frozen := r.facts.frozen || table.any (·.frozen) } }

/-- A read of a new code dropped at the full table: counted, and PARTIAL set (R71). -/
def OpenRecord.dropNewCode (r : OpenRecord) : OpenRecord :=
  let r' := r.countDropped
  { r' with facts := { r'.facts with partialMark := true } }

/-- The Sweep Unit folds one read removed from the queue (R71). -/
def State.foldRead (r : StampedRead) (s : State) : State :=
  let a := additionsOf r.antenna (readWeight s.link.settings.floor r.strength) r.position
  if isSighted r.code s.sweep.sightings then
    let table := foldInto r.code a s.sweep.sightings
    { s with sweep := { s.sweep with sightings := table, record := s.sweep.record.noteFrozen table } }
  else if s.sweep.sightings.length < Config.sightingTableSize then
    let table := s.sweep.sightings ++ [(newSighting r.code (s.table.kindOf r.code)).fold a]
    { s with
      sweep := { s.sweep with sightings := table, record := s.sweep.record.noteFrozen table }
      table := s.table.markSighted r.code }
  else { s with sweep := { s.sweep with record := s.sweep.record.dropNewCode } }

/-- The Sweep Unit folds in OPEN and in FINALIZE (R54, R77). -/
def SweepPhase.folds : SweepPhase → Bool
  | .opened => true
  | .finalize => true
  | _ => false

/-- READ_FOLD: the head of the read queue is removed and folded (R54, R71). -/
def execReadFold (s : State) : Host.Outcome State Fault Refusal :=
  match s.sweep.phase.folds, s.port.queue with
  | true, r :: rest => finish (({ s with port := { s.port with queue := rest } }).foldRead r)
  | _, _ => .next s

/-! ## Evaluation and hand-off (R77, R78, R89 to R91) -/

/-- The across-aisle test: 8 × W_B exceeds R × W_F (R89). -/
def Sighting.acrossAisle (bleed : Nat) (x : Sighting) : Bool := bleed * x.front < 8 * x.back

/-- The estimate: the weighted mean of the FRONT positions rounded half up, at most P_max (R90). -/
def Sighting.estimate (pMax : Nat) (x : Sighting) : Nat := min ((x.moment + x.front / 2) / x.front) pMax

/-- The position of an offer: the estimate in a shelf sweep of a sighting with front weight, else absent
(R90). -/
def Sighting.position (target : Loc) (pMax : Nat) (x : Sighting) : Option Nat :=
  if target.isShelf && 0 < x.front then some (x.estimate pMax) else none

/-- The offer of a sighting that is not across-aisle (R91). -/
def Sighting.offer (target : Loc) (pMax : Nat) (x : Sighting) : Offer :=
  { code := x.code, kind := x.kind, position := x.position target pMax,
    strength := if (x.position target pMax).isSome then x.front * 2 ^ x.scale else 0, reads := x.reads }

/-- The commit of a sweep: an offer for each sighting that is not across-aisle, in first-read order, and
the ranks of every listed sighting (R78). -/
def makeCommit (number : Nat) (target : Loc) (mode : SweepMode) (bleed pMax : Nat) (facts : SweepFacts)
    (table : List Sighting) : Commit :=
  { number := number, target := target, mode := mode,
    offers := (table.filter (fun x => !x.acrossAisle bleed)).map (Sighting.offer target pMax),
    ranks := listedRanks table, facts := facts }

/-- FINALIZE's evaluation and hand-off for a sweep of a target and mode: the across-aisle count is taken,
BLEED_HI is evaluated with it, and the commit is delivered (R77, R78). -/
def State.handOff (target : Loc) (mode : SweepMode) (bleed : Nat) (s : State) : State :=
  let across := s.sweep.sightings.countP (Sighting.acrossAisle bleed)
  let facts := { s.sweep.record.facts with acrossAisle := across }
  let record := { s.sweep.record with facts := facts, sighted := s.sweep.sightings.length }
  let commit := makeCommit record.number target mode bleed (s.table.pMax.getD 0) facts s.sweep.sightings
  ({ s with sweep := { s.sweep with phase := .commit, record := record, inFlight := some commit } }).evaluate
    .bleed target record.number [(.bleedHi, across)]

/-- HAND_OFF: FINALIZE with the read queue empty ends (R77, R78). -/
def execHandOff (s : State) : Host.Outcome State Fault Refusal :=
  match s.sweep.phase, s.port.queue, s.sweep.record with
  | .finalize, [], { target := some target, mode := some mode, bleed := some bleed, .. } =>
    finish (s.handOff target mode bleed)
  | _, _, _ => .next s

end Sys2Proof.Machine
end

