-- ==== Sys2Proof/Machine/Dispatch.lean ====
section
/-! DEFINITION. The dispatch: one arm per command, each one call of its meaning. -/

namespace Sys2Proof.Machine

def exec (i : Instr) (s : State) : Host.Outcome State Fault Refusal :=
  match i with
  | .powerOn strap switch => Sys2Proof.Machine.execPowerOn strap switch s
  | .recordCompletion t => Sys2Proof.Machine.execRecordCompletion t s
  | .runBegin => Sys2Proof.Machine.execRunBegin s
  | .listItem => Sys2Proof.Machine.execListItem s
  | .listItemFilingCompletion => Sys2Proof.Machine.execListItemFilingCompletion s
  | .runClose => Sys2Proof.Machine.execRunClose s
  | .runReopen => Sys2Proof.Machine.execRunReopen s
  | .discardRun => Sys2Proof.Machine.execDiscardRun s
  | .cursorSet => Sys2Proof.Machine.execCursorSet s
  | .circulationNotice => Sys2Proof.Machine.execCirculationNotice s
  | .entryQuery => Sys2Proof.Machine.execEntryQuery s
  | .verdictQuery => Sys2Proof.Machine.execVerdictQuery s
  | .locationQuery => Sys2Proof.Machine.execLocationQuery s
  | .openRequest => Sys2Proof.Machine.execOpenRequest s
  | .endRequest => Sys2Proof.Machine.execEndRequest s
  | .abandonRequest => Sys2Proof.Machine.execAbandonRequest s
  | .dormancyRequest => Sys2Proof.Machine.execDormancyRequest s
  | .conditionRequest => Sys2Proof.Machine.execConditionRequest s
  | .modeRequest => Sys2Proof.Machine.execModeRequest s
  | .acknowledgeRequest => Sys2Proof.Machine.execAcknowledgeRequest s
  | .evidenceModeRequest => Sys2Proof.Machine.execEvidenceModeRequest s
  | .evidenceReadRequest => Sys2Proof.Machine.execEvidenceReadRequest s
  | .stStrengthFloor => Sys2Proof.Machine.execStStrengthFloor s
  | .stBleedRatio => Sys2Proof.Machine.execStBleedRatio s
  | .stOrderTolerance => Sys2Proof.Machine.execStOrderTolerance s
  | .stIdleLimit => Sys2Proof.Machine.execStIdleLimit s
  | .stAttentionMode => Sys2Proof.Machine.execStAttentionMode s
  | .stAttentionEnables => Sys2Proof.Machine.execStAttentionEnables s
  | .stStreaming => Sys2Proof.Machine.execStStreaming s
  | .stReadoutSelection => Sys2Proof.Machine.execStReadoutSelection s
  | .fetchRequest => Sys2Proof.Machine.execFetchRequest s
  | .barrierRequest => Sys2Proof.Machine.execBarrierRequest s
  | .barrierCompletion => Sys2Proof.Machine.execBarrierCompletion s
  | .testRequest => Sys2Proof.Machine.execTestRequest s
  | .coverageRequest => Sys2Proof.Machine.execCoverageRequest s
  | .statusRequest => Sys2Proof.Machine.execStatusRequest s
  | .foreignListQuery => Sys2Proof.Machine.execForeignListQuery s
  | .softReset => Sys2Proof.Machine.execSoftReset s
  | .tagRead r => Sys2Proof.Machine.execTagRead r s
  | .encoderCount d => Sys2Proof.Machine.execEncoderCount d s
  | .triggerPress => Sys2Proof.Machine.execTriggerPress s
  | .callPress => Sys2Proof.Machine.execCallPress s
  | .modeSwitchChange p => Sys2Proof.Machine.execModeSwitchChange p s
  | .idleExpiry => Sys2Proof.Machine.execIdleExpiry s
  | .readFold => Sys2Proof.Machine.execReadFold s
  | .handOff => Sys2Proof.Machine.execHandOff s
  | .commit => Sys2Proof.Machine.execCommit s
  | .shelfJobCompletion => Sys2Proof.Machine.execShelfJobCompletion s
  | .runWideJobCompletion => Sys2Proof.Machine.execRunWideJobCompletion s
  | .transmissionEnd => Sys2Proof.Machine.execTransmissionEnd s
  | .buzzerPatternEnd => Sys2Proof.Machine.execBuzzerPatternEnd s
  | .uartCharacter c => Sys2Proof.Machine.execUartCharacter c s

end Sys2Proof.Machine
end

