-- ==== Sys2Proof/Safety.lean ====
section
/-! DEFINITION. The terms the statements use: which request a command takes, the state after a reply, how a
record spells a request, what the offers of a commit meet, and what makes a state sound: the capacities, the
control of the sweep and of the jobs, the expected list, the marks, the location records, the pending standings
and the evidence phase. -/

namespace Sys2Proof.Machine

/-! ## Requests and replies

`State.replied`, `State.quiet` and `State.settled` end an event with the transmitter beginning what it may:
that a free transmitter does so at the end of the event, after its other effects and after a taking, is R160
as read by log entry 8 (DEDUCED); while a barrier is due (R164) it begins nothing before the completion, and a
request taken or a barrier completed frees the slot and leaves none due. Every statement in their terms leans on that reading, FE's among them, whose
first report begins inside FETCH_REQUEST. -/

/-- The request `r` with disposition `d` stands in the holding slot and can be taken: the reply slot is
empty, and no filing or barrier holds the slot (R157). -/
def CanTake (s : State) (r : Request) (d : Terminator) : Prop :=
  s.link.slot = some { req := r, disp := d } ∧ s.link.reply = .empty ∧ s.link.filing = false ∧
  s.link.barrier = none

/-- The command that takes a request (section 11.6). An ST goes to the command of its id; one of an id
outside 01 to 08 to any of them, named here as the first. -/
def commandOf : Request → Instr
  | .rb .. => .runBegin
  | .li .. => .listItem
  | .cr .. => .runClose
  | .ro => .runReopen
  | .dr => .discardRun
  | .sc .. => .cursorSet
  | .cn .. => .circulationNotice
  | .qe .. => .entryQuery
  | .qv .. => .verdictQuery
  | .qh .. => .locationQuery
  | .os .. => .openRequest
  | .es => .endRequest
  | .as => .abandonRequest
  | .dorm => .dormancyRequest
  | .ac .. => .conditionRequest
  | .am .. => .modeRequest
  | .aq => .acknowledgeRequest
  | .em .. => .evidenceModeRequest
  | .er .. => .evidenceReadRequest
  | .st 2 _ => .stBleedRatio
  | .st 3 _ => .stOrderTolerance
  | .st 4 _ => .stIdleLimit
  | .st 5 _ => .stAttentionMode
  | .st 6 _ => .stAttentionEnables
  | .st 7 _ => .stStreaming
  | .st 8 _ => .stReadoutSelection
  | .st _ _ => .stStrengthFloor
  | .fe .. => .fetchRequest
  | .ba .. => .barrierRequest
  | .ts .. => .testRequest
  | .cv => .coverageRequest
  | .qs => .statusRequest
  | .qf .. => .foreignListQuery
  | .rs => .softReset

/-- An id that names no setting (R163). -/
def badSettingId (id : Nat) : Bool := id < 1 || 8 < id

/-- The request is one the command takes: that of `commandOf`, and for the eight ST commands also an ST
whose id names no setting (entry 10). -/
def Takes (c : Instr) (r : Request) : Prop :=
  c = commandOf r ∨
  ∃ id v, r = .st id v ∧ badSettingId id = true ∧
    c ∈ [.stStrengthFloor, .stBleedRatio, .stOrderTolerance, .stIdleLimit, .stAttentionMode,
      .stAttentionEnables, .stStreaming, .stReadoutSelection]

/-- A state whose holding slot is freed, into whose reply slot a reply is placed, and whose transmitter has
begun what it may: the end of an event that answers a request (R157, R158, and R160 as read by entry 8). -/
def State.replied (t : State) (w : RequestWord) (code : StatusCode) (fields : List Field) : State :=
  { t with link :=
      ({ t.link with
         slot := none
         reply := .filled { word := w.text, code := code, fields := fields } }).pump }

/-- The end of an event that takes a request and sends no reply; the transmitter begins what it may (R160 as
read by entry 8). -/
def State.quiet (t : State) : State := { t with link := ({ t.link with slot := none }).pump }

/-- The end of an event that performs a request: an OK reply under `?`, none under `;` (R158). -/
def State.performed (t : State) (w : RequestWord) (d : Terminator) (fields : List Field) : State :=
  if d = .reply then t.replied w .OK fields else t.quiet

/-- The end of an event at which the owner accepts a request: CK and no change under `=`, else the effect
`t` of the request (R155, R158). -/
def State.accepted (s t : State) (w : RequestWord) (d : Terminator) (fields : List Field) : State :=
  if d = .check then s.replied w .CK [] else t.performed w d fields

/-- The end of an event that takes no request; the transmitter begins what it may, and nothing while a barrier
is due (R160 and R164 as read by entry 8). -/
def State.settled (t : State) : State := t.pump

/-! ## The text of a request (section 11.2, section 11.6) -/

/-- The characters of a record of a word and its fields, each introduced by a comma, without its terminator. -/
def recordText (word : List Byte) (fields : List (List Byte)) : List Byte :=
  word ++ fields.flatMap (fun f => asc ',' :: f)

/-- A field writes a number in hexadecimal digits of either case, at most as many as its kind allows, leading
zeros counted (R154; the leading zeros are entry 12). -/
def WritesNumber (digits n : Nat) (f : List Byte) : Prop :=
  f ≠ [] ∧ f.length ≤ digits ∧ readHexFrom 0 f = some n

/-- Fields write numbers, each of at most the digits given with it. -/
def WriteNumbers (numbers : List (Nat × Nat)) (fields : List (List Byte)) : Prop :=
  List.Forall₂ (fun x f => WritesNumber x.1 x.2 f) numbers fields

/-- Fields that are an optional count alone: left out, empty, or a number of at most four digits (R154). -/
def WriteCount (count : Option Nat) (fields : List (List Byte)) : Prop :=
  match count with
  | none => fields = [] ∨ fields = [[]]
  | some n => WriteNumbers [(4, n)] fields

/-- A field writes a letter, in either case (R154). -/
def WritesLetter (letter : Char) (f : List Byte) : Prop := ∃ x, f = [x] ∧ upper x = asc letter

/-- The word of a request (section 11.6). -/
def Request.letters : Request → List Char
  | .rb .. => ['R', 'B']
  | .li .. => ['L', 'I']
  | .cr .. => ['C', 'R']
  | .ro => ['R', 'O']
  | .dr => ['D', 'R']
  | .sc .. => ['S', 'C']
  | .cn .. => ['C', 'N']
  | .qe .. => ['Q', 'E']
  | .qv .. => ['Q', 'V']
  | .qh .. => ['Q', 'H']
  | .os .. => ['O', 'S']
  | .es => ['E', 'S']
  | .as => ['A', 'S']
  | .dorm => ['D', 'O']
  | .ac .. => ['A', 'C']
  | .am .. => ['A', 'M']
  | .aq => ['A', 'Q']
  | .em .. => ['E', 'M']
  | .er .. => ['E', 'R']
  | .st .. => ['S', 'T']
  | .fe .. => ['F', 'E']
  | .ba .. => ['B', 'A']
  | .ts .. => ['T', 'S']
  | .cv => ['C', 'V']
  | .qs => ['Q', 'S']
  | .qf .. => ['Q', 'F']
  | .rs => ['R', 'S']

/-- The fields of a record spell the fields of the request: the catalogue of section 11.6 under the digits
and letters of R154. The bays and levels of RB are entry 23, the key of QE entry 12. -/
def FieldsSpell (fields : List (List Byte)) : Request → Prop
  | .rb bays levels width items => WriteNumbers [(2, bays), (2, levels), (3, width), (3, items)] fields
  | .li rank code shelf status watch =>
    WriteNumbers [(3, rank), (16, code), (2, shelf), (2, status), (2, watch)] fields
  | .cr force => WriteNumbers [(2, force)] fields
  | .sc shelf => WriteNumbers [(2, shelf)] fields
  | .cn code status => WriteNumbers [(16, code), (2, status)] fields
  | .qe selector key => ∃ f g, fields = [f, g] ∧
    ((selector = 82 ∧ WritesLetter 'R' f ∧ WritesNumber 3 key g) ∨
      (selector = 67 ∧ WritesLetter 'C' f ∧ WritesNumber 16 key g))
  | .qv verdict start count => ∃ f g rest, fields = f :: g :: rest ∧ WritesNumber 2 verdict f ∧
    WritesNumber 3 start g ∧ WriteCount count rest
  | .qh number => WriteNumbers [(2, number)] fields
  | .os target mode => ∃ f g, fields = [f, g] ∧ WritesNumber 2 target f ∧
    ((mode = 78 ∧ WritesLetter 'N' g) ∨ (mode = 82 ∧ WritesLetter 'R' g))
  | .ac condition threshold enable => WriteNumbers [(2, condition), (4, threshold), (2, enable)] fields
  | .am combine latch duration => WriteNumbers [(2, combine), (2, latch), (4, duration)] fields
  | .em mode watermark => WriteNumbers [(2, mode), (4, watermark)] fields
  | .er count => WriteCount count fields
  | .st id value => WriteNumbers [(2, id), (4, value)] fields
  | .fe count => WriteCount count fields
  | .ba scope => ∃ f, fields = [f] ∧
    WritesLetter (match scope with
      | .engine => 'E'
      | .all => 'A') f
  | .ts mask => WriteNumbers [(2, mask)] fields
  | .qf start count => ∃ f rest, fields = f :: rest ∧ WritesNumber 3 start f ∧ WriteCount count rest
  | .ro => fields = []
  | .dr => fields = []
  | .es => fields = []
  | .as => fields = []
  | .dorm => fields = []
  | .aq => fields = []
  | .cv => fields = []
  | .qs => fields = []
  | .rs => fields = []

/-! ## The offers of a commit (R94, R95) -/

/-- The placement of an offer's item, expected or foreign, before the commit. -/
def CountTable.placementOf (t : CountTable) (o : Offer) : Option Placement :=
  match o.kind with
  | .listed rank => (t.entries.find? (fun e => decide (e.rank = rank))).bind (fun e => e.placement)
  | .foreign => (t.foreign.find? (fun f => decide (f.code = o.code))).map (fun f => f.placement)

/-- A placement the recount vacate removes: any on the target of a RECOUNT (R94). -/
def Commit.vacates (c : Commit) (p : Placement) : Bool := decide (c.mode = .recount) && decide (p.loc = c.target)

/-- The placement an offer meets: that of its item, unless the vacate has removed it (R95). -/
def CountTable.meets (t : CountTable) (c : Commit) (o : Offer) : Option Placement :=
  (t.placementOf o).filter (fun p => !c.vacates p)

/-- An offer is weighed against a placement: both are on shelves, the same or neighbours (R95). -/
def CountTable.weighs (t : CountTable) (target held : Loc) : Bool :=
  match target, held with
  | .shelf a, .shelf b => a == b || t.geometry.any (fun g => g.neighbours a b)
  | _, _ => false

/-- An offer is kept elsewhere: the placement it meets is weighed and is no weaker (R95). -/
def CountTable.keeps (t : CountTable) (c : Commit) (o : Offer) : Bool :=
  (t.meets c o).any (fun p => t.weighs c.target p.loc && decide (o.strength ≤ p.strength))

/-- The foreign entries that stand after the vacate (R94). -/
def CountTable.foreignLeft (t : CountTable) (c : Commit) : List ForeignEntry :=
  t.foreign.filter (fun f => !c.vacates f.placement)

/-- The foreign offers that find no foreign entry, in order (R98). -/
def CountTable.newcomers (t : CountTable) (c : Commit) : List Offer :=
  c.offers.filter (fun o => decide (o.kind = .foreign) && decide (t.meets c o = none))

/-- Those of them the foreign list has room for: the first ones (R98). -/
def CountTable.admitted (t : CountTable) (c : Commit) : List Offer :=
  (t.newcomers c).take (Config.foreignListSize - (t.foreignLeft c).length)

/-- An offer is placed, as a new placement or moved in (R95, R98). -/
def CountTable.places (t : CountTable) (c : Commit) (o : Offer) : Bool :=
  match o.kind, t.meets c o with
  | .foreign, none => decide (o ∈ t.admitted c)
  | _, _ => !t.keeps c o

/-! ## Capacities -/

/-- A geometry RB accepts (R2). -/
def Geometry.InRange (g : Geometry) : Prop :=
  (1 ≤ g.bays ∧ g.bays ≤ 12) ∧ (1 ≤ g.levels ∧ g.levels ≤ 8) ∧ (600 ≤ g.width ∧ g.width ≤ 1200) ∧
  (1 ≤ g.items ∧ g.items ≤ 2048)

/-- Every setting is in its range (R163). -/
def Settings.InRange (t : Settings) : Prop :=
  t.floor ≤ 254 ∧ (1 ≤ t.bleed ∧ t.bleed ≤ 64) ∧ (10 ≤ t.tolerance ∧ t.tolerance ≤ 200) ∧
  (5 ≤ t.idleLimit ∧ t.idleLimit ≤ 120) ∧ t.attnMode ≤ 2 ∧ t.attnEnable ≤ 3 ∧ t.streaming ≤ 1 ∧
  t.readout ≤ 3

/-- The branches, scale and read count of a sighting are in their ranges (R70, R85). -/
def Sighting.InRange (x : Sighting) : Prop :=
  x.moment ≤ Config.branchMax ∧ x.front ≤ Config.branchMax ∧ x.back ≤ Config.branchMax ∧
  x.scale ≤ Config.scaleMax ∧ x.reads ≤ Config.count16Max

/-- The counts of last-sweep facts are in their ranges (R11, R66). -/
def SweepFacts.InRange (f : SweepFacts) : Prop :=
  f.accepted ≤ Config.count16Max ∧ f.dropped ≤ Config.count16Max ∧ f.acrossAisle ≤ Config.sightingTableSize

/-- The outcome counts of a sweep are in their ranges (R66). -/
def Outcomes.InRange (o : Outcomes) : Prop :=
  o.newPlacements ≤ Config.sightingTableSize ∧ o.movedIn ≤ Config.sightingTableSize ∧
  o.keptElsewhere ≤ Config.sightingTableSize ∧ o.foreign ≤ Config.sightingTableSize ∧
  o.foreignDropped ≤ Config.sightingTableSize ∧ o.heard ≤ Config.sightingTableSize

/-- The capacities and ranges of the controller's queues, tables and counters. -/
structure State.Capacities (s : State) : Prop where
  buffer : s.link.buffer.length ≤ Config.bufferSize
  refusals : s.link.refusals.length ≤ Config.refusalQueueSize ∧ s.link.refusalsLost ≤ Config.count8Max
  reports : s.link.reports.length ≤ Config.reportQueueSize ∧ s.link.reportsDropped ≤ Config.count8Max
  allowance : s.link.allowance ≤ 16
  settings : s.link.settings.InRange
  queue : s.port.queue.length ≤ Config.readQueueSize ∧ ∀ r ∈ s.port.queue, r.position ≤ 1350
  port : s.port.position ≤ 1350 ∧ s.port.drops ≤ Config.count16Max
  sightings : s.sweep.sightings.length ≤ Config.sightingTableSize ∧ ∀ x ∈ s.sweep.sightings, x.InRange
  record : s.sweep.record.facts.InRange ∧ s.sweep.record.outcomes.InRange ∧
    s.sweep.record.sighted ≤ Config.sightingTableSize ∧ s.sweep.record.number ≤ Config.count16Max
  idleTimer : ∀ n, s.sweep.idleTimer = some n → 5 ≤ n ∧ n ≤ 120
  inFlight : ∀ c, s.sweep.inFlight = some c →
    c.offers.length ≤ Config.sightingTableSize ∧ c.facts.InRange ∧ c.number ≤ Config.count16Max
  geometry : ∀ g, s.table.geometry = some g → g.InRange
  foreign : s.table.foreign.length ≤ Config.foreignListSize ∧ s.table.overflow ≤ Config.count8Max ∧
    ∀ f ∈ s.table.foreign, 1 ≤ f.sighted ∧ f.sighted ≤ Config.count8Max
  records : s.table.shelves.length = Config.shelfRecords ∧ s.table.loose.length = Config.looseRecords ∧
    ∀ r ∈ s.table.shelves ++ s.table.loose,
      r.sweepCount ≤ Config.count8Max ∧ r.lastSweep ≤ Config.count16Max ∧ r.facts.InRange
  cursor : s.table.cursor ≤ s.table.shelfCount
  sweepNumber : s.table.sweepNumber ≤ Config.count16Max
  jobs : s.order.jobs.length ≤ Config.shelfRecords ∧
    ∀ n, s.order.tolerance = some n → 10 ≤ n ∧ n ≤ 200
  monitor : s.monitor.counter ≤ Config.durationMax ∧ s.monitor.duration ≤ 15 ∧
    ∀ c, (s.monitor.conds.get c).threshold ≤ 255
  evidence : s.evidence.records.length ≤ Config.evidenceSize ∧ s.evidence.watermark ≤ 63 ∧
    (s.evidence.mode = .fill → s.evidence.stopped = false →
      s.evidence.records.length < Config.evidenceSize)
  buzzer : s.panel.waiting.length ≤ Config.buzzerListSize

/-! ## Control -/

/-- The sweep's claim on its target stands: OPEN, FINALIZE, or COMMIT before the commit event (R12, R120). -/
def SweepPhase.claims : SweepPhase → Bool
  | .opened => true
  | .finalize => true
  | .commit => true
  | _ => false

/-- How the run, the sweep, the jobs, the read queue, the timer and the link's slots stand to one another. -/
structure State.Controlled (s : State) : Prop where
  /-- a sweep is open or closing only in OPEN, and has a target and a mode (R65, R67) -/
  sweepInOpenRun : s.sweep.phase ≠ .idle →
    s.table.run = .opened ∧ s.sweep.record.target.isSome = true ∧ s.sweep.record.mode.isSome = true
  /-- the read queue holds reads only in OPEN and FINALIZE (R52, R54) -/
  queueWhileFolding : s.sweep.phase.folds = false → s.port.queue = []
  /-- the sighting table is empty in IDLE and ORDER (R70) -/
  tableWhileClaimed : s.sweep.phase.claims = false → s.sweep.sightings = []
  /-- the idle timer runs exactly in OPEN, and a rate window is kept only there (R72, R73) -/
  timerInOpen : (s.sweep.idleTimer.isSome = true ↔ s.sweep.phase = .opened) ∧
    (s.sweep.rateWindow.isSome = true → s.sweep.phase = .opened)
  /-- the bleed ratio is captured by FINALIZE (R77) -/
  bleedCaptured : s.sweep.phase = .finalize → s.sweep.record.bleed.isSome = true
  /-- a commit is in flight exactly in COMMIT, and is that of the open-sweep record (R78) -/
  commitInFlight : (s.sweep.inFlight.isSome = true ↔ s.sweep.phase = .commit) ∧
    ∀ c, s.sweep.inFlight = some c →
      s.sweep.record.target = some c.target ∧ s.sweep.record.number = c.number
  /-- a shelf job is in flight exactly in ORDER, and is that of the job list's head (R102) -/
  shelfJobInOrder : (s.sweep.phase = .order ↔ s.order.jobs ≠ []) ∧
    ∀ t, s.order.current = .shelf t ↔ s.order.jobs.head? = some t
  /-- the run-wide job is in flight exactly in CLOSING (R102) -/
  runJobInClosing : s.order.current = .run ↔ s.table.run = .closing
  /-- there is a geometry exactly outside EMPTY (section 1.2) -/
  geometryInRun : s.table.geometry = none ↔ s.table.run = .empty
  /-- dormancy holds only with no sweep and no request waiting (R61, R62) -/
  dormantWhenIdle : s.port.dormancy = .dormant → s.sweep.phase = .idle ∧ s.link.slot = none
  /-- a filing holds a list item in the slot, with the reply slot empty (R22) -/
  filingHoldsSlot : s.link.filing = true →
    s.link.reply = .empty ∧ ∃ r c t st w d, s.link.slot = some { req := .li r c t st w, disp := d }
  /-- a waiting barrier holds its record in the slot, with the reply slot empty (R164) -/
  barrierHoldsSlot : ∀ b, s.link.barrier = some b →
    s.link.reply = .empty ∧ ∃ d, s.link.slot = some { req := .ba b, disp := d }
  /-- the reply slot is reserved exactly while an FE allowance remains, and that many reports wait (R161) -/
  allowanceReserved : (0 < s.link.allowance ↔ ∃ n d, s.link.reply = .reserved n d) ∧
    s.link.allowance ≤ s.link.reports.length

/-! ## The expected list -/

/-- The expected list and the foreign list are as R17 and R18 require, and the load record as R19. -/
structure State.ListSound (s : State) : Prop where
  ranks : s.table.entries.map (·.rank) = (List.range s.table.entries.length).map (· + 1)
  codes : (s.table.entries.map (·.code) ++ s.table.foreign.map (·.code)).Nodup
  nonzero : ∀ e ∈ s.table.entries, e.code ≠ 0
  shelves : (s.table.entries.map (·.shelf)).Pairwise (· ≤ ·)
  onShelves : ∀ e ∈ s.table.entries, s.table.isShelf e.shelf = true
  emptyRun : s.table.run = .empty → s.table.entries = [] ∧ s.table.foreign = []
  loading : s.table.run = .loading →
    s.table.load.nextRank = s.table.entries.length + 1 ∧ s.table.load.filed = s.table.entries.length ∧
    s.table.load.prevShelf = s.table.entries.getLast?.map (·.shelf) ∧ s.table.foreign = [] ∧
    ∀ g, s.table.geometry = some g → s.table.entries.length < g.items
  isSealed : s.table.run.hasVerdicts = true →
    s.table.load.nextRank = 0 ∧ s.table.load.filed = s.table.entries.length ∧
    s.table.items = some s.table.entries.length

/-! ## Reads, sightings and offers -/

/-- The reads of the queue, the sightings and the offers in flight: their codes, their kinds and their
stamps (R18, R51, R70, R71, R98). -/
structure State.SightingsSound (s : State) : Prop where
  /-- no two sightings have one code (R70) -/
  codes : (s.sweep.sightings.map (·.code)).Nodup
  /-- the kind of a sighting is what the lookup by code gives (R71) -/
  kinds : ∀ x ∈ s.sweep.sightings, x.kind = s.table.kindOf x.code
  /-- and so it is with the offers of the commit in flight (R78); an offer has a position only on a shelf,
  at most P_max, and a strength above 0 exactly with one (R90, R91) -/
  offers : ∀ c, s.sweep.inFlight = some c →
    (c.offers.map (·.code)).Nodup ∧ ∀ o ∈ c.offers, o.kind = s.table.kindOf o.code ∧ o.code ≠ 0 ∧
      (o.position = none ↔ o.strength = 0) ∧
      ∀ x, o.position = some x → c.target.isShelf = true ∧ x ≤ s.table.pMax.getD 0
  /-- zero is not an item code (R18) -/
  nonzero : (∀ r ∈ s.port.queue, r.code ≠ 0) ∧ (∀ x ∈ s.sweep.sightings, x.code ≠ 0) ∧
    (∀ f ∈ s.table.foreign, f.code ≠ 0) ∧ ∀ r ∈ s.evidence.records, r.code ≠ 0
  /-- every read waiting carries the target and number of the sweep (R51) -/
  stamps : ∀ r ∈ s.port.queue, s.sweep.record.target = some r.target ∧ r.sweep = s.sweep.record.number

/-! ## Marks, location records, standings, evidence -/

/-- The ranks whose IN_SWEEP marks the sweep holds: of its listed sightings, and of its commit in flight. -/
def SweepUnit.claimedRanks (u : SweepUnit) : List Nat :=
  match u.inFlight with
  | some c => c.ranks
  | none => listedRanks u.sightings

/-- The three count marks are held only as R16, R31, R119, R120 and R127 allow. -/
structure State.MarksSound (s : State) : Prop where
  /-- an entry with a placement holds RETURNED_SINCE CLEAR -/
  placedClear : ∀ e ∈ s.table.entries, e.placement.isSome = true → e.returned = .clear
  /-- an entry holds SET_DURING only while the returned window of its expected shelf is open -/
  duringWindow : ∀ e ∈ s.table.entries, e.returned = .setDuring → s.sweep.windowOpen e.shelf = true
  /-- an entry holds IN_SWEEP only while a sweep is open or closing before its commit event, as one the
  sweep has sighted -/
  inSweepClaimed : ∀ e ∈ s.table.entries, e.inSweep = true →
    s.sweep.phase.claims = true ∧ e.rank ∈ s.sweep.claimedRanks
  /-- an entry holds LENT_SINCE only with a status other than AVAILABLE: it is filed without the mark, a loan
  sets it and a notice to AVAILABLE clears it (R16, R119, R120) -/
  lentStatus : ∀ e ∈ s.table.entries, e.lentSince = true → e.status ≠ .available
  /-- in LOADING every mark stands as it was filed, clear (R16, R31) -/
  loadingClear : s.table.run = .loading →
    ∀ e ∈ s.table.entries, e.inSweep = false ∧ e.lentSince = false ∧ e.returned = .clear

/-- A location is one of the run's: a shelf 1 to S or one of L1 to L8 (R10, section 1.3). -/
def CountTable.hasLoc (c : CountTable) : Loc → Bool
  | .shelf t => c.isShelf t
  | .loose i => 1 ≤ i && i ≤ 8

/-- A placement of an expected or a foreign entry. -/
def CountTable.HoldsPlacement (c : CountTable) (p : Placement) : Prop :=
  (∃ e ∈ c.entries, e.placement = some p) ∨ ∃ f ∈ c.foreign, f.placement = p

/-- The states of the location records follow the sweep and the sweep counts (R12), and placements stand
on locations of the run that have had a committed sweep (R42). -/
structure State.LocationsSound (s : State) : Prop where
  /-- SWEEPING exactly while the target of the sweep that is open or closing before its commit -/
  sweeping : ∀ l, (s.table.recordAt l).state = .sweeping ↔
    s.sweep.phase.claims = true ∧ s.sweep.record.target = some l
  /-- otherwise UNSWEPT with a sweep count of 0, and SWEPT with one of at least 1 -/
  unswept : ∀ l, (s.table.recordAt l).state = .unswept → (s.table.recordAt l).sweepCount = 0
  swept : ∀ l, (s.table.recordAt l).state = .swept → 1 ≤ (s.table.recordAt l).sweepCount
  /-- the target of a sweep is a location of the run -/
  target : s.sweep.phase ≠ .idle → ∀ l, s.sweep.record.target = some l → s.table.hasLoc l = true
  /-- every placement names a location of the run, of sweep count 1 or more; it has a position only on a
  shelf, at most P_max, and a strength above 0 exactly with one -/
  placements : ∀ p, s.table.HoldsPlacement p →
    s.table.hasLoc p.loc = true ∧ 1 ≤ (s.table.recordAt p.loc).sweepCount ∧
    (p.position = none ↔ p.strength = 0) ∧
    ∀ x, p.position = some x → p.loc.isShelf = true ∧ x ≤ s.table.pMax.getD 0

/-- The entry is placed on a shelf with a position: it stands in a sequence (R103). -/
def Entry.Positioned (e : Entry) : Prop :=
  ∃ p t, e.placement = some p ∧ p.loc = .shelf t ∧ p.position.isSome = true

/-- The standings follow the placements and the order jobs (R35, R40, R99, R109, R112). -/
structure State.StandingsSound (s : State) : Prop where
  /-- a shelf standing is held exactly by the entries placed on a shelf with a position -/
  shelf : ∀ e ∈ s.table.entries, e.shelfStanding ≠ .none ↔ e.Positioned
  /-- PENDING is held only in ORDER, on a shelf whose job has not completed -/
  pending : ∀ e ∈ s.table.entries, e.shelfStanding = .pending →
    s.sweep.phase = .order ∧ ∃ p t, e.placement = some p ∧ p.loc = .shelf t ∧ t ∈ s.order.jobs
  /-- in CLOSED the positioned entries, and no others, hold a run standing, IN or OUT -/
  closedRun : s.table.run = .closed → ∀ e ∈ s.table.entries,
    ((e.runStanding = .inOrder ∨ e.runStanding = .out) ↔ e.Positioned) ∧
    (e.runStanding = .none ↔ ¬ e.Positioned)
  /-- in every other run state no entry holds one -/
  openRun : s.table.run ≠ .closed → ∀ e ∈ s.table.entries, e.runStanding = .none
  /-- the shelf job in flight has walked its shelf's sequence under its tolerance -/
  shelfWalk : ∀ t, s.order.current = .shelf t →
    ∃ tolerance, s.order.tolerance = some tolerance ∧
      s.order.piles = walk (shelfSequence s.table.entries tolerance t)
  /-- the run-wide job in flight has walked the run-wide sequence under its tolerance -/
  runWalk : s.order.current = .run →
    ∃ tolerance, s.order.tolerance = some tolerance ∧
      s.order.piles = walk (runSequence s.table.entries tolerance s.table.shelfNumbers)

/-- The phase of the Evidence Buffer follows its mode and the anomaly's active state (R147 to R149, R151). -/
def State.EvidenceSound (s : State) : Prop :=
  match s.evidence.mode with
  | .off => s.evidence.phase = .none
  | .fill => s.evidence.phase = .none
  | .roll => s.evidence.phase = .none
  | .rollFreeze =>
    if s.monitor.active then s.evidence.phase = .freezing ∨ s.evidence.phase = .frozen
    else s.evidence.phase = .rolling
  | .armRoll => s.evidence.phase = if s.monitor.active then .capturing else .armed

end Sys2Proof.Machine
end

