-- ==== Sys2Proof/WellFormed.lean ====
section
/-! DEFINITION. Which commands are well formed. Most operands are of types that hold no other value than
the spec's; the one check left is that UART_CHARACTER carries no terminator (R155; its row in the table). -/

namespace Sys2Proof

/-- A UART_CHARACTER is a character other than a terminator (`;`, `?` or `=`); every other command is
well formed. -/
def WellFormed : Instr → Bool
  | .uartCharacter c => c != asc ';' && c != asc '?' && c != asc '='
  | _ => true

end Sys2Proof
end

