-- ==== Sys2Proof/Certificates/Slice0/Obligations.lean ====
section
/-! DEFINITION. The statements for the provers: what a step is, what every step keeps, what the derived
values and the arithmetic are, and what each command does to the state. Each docstring names the rules of
spec/ it formalises, or the log entry of a choice of the model's. -/

open Sys2Proof Sys2Proof.Machine

/-! ## The step and its invariants -/

/-- A step runs the command at the front of the queue on the state with the queue's rest; with an empty
queue the block idles (entry 1, a choice of the model). -/
def Obligations.StepRunsTheFrontCommand : Prop :=
  (∀ (c : Instr) (rest : List Instr) (s : State),
    step { s with pending := c :: rest } = exec c { s with pending := rest }) ∧
  ∀ s : State, s.pending = [] → step s = .next s

/-- No command stops the controller, and none touches the queue of waiting commands (entries 1 and 2). -/
def Obligations.EveryCommandAnswersANextState : Prop :=
  ∀ (c : Instr) (s : State), ∃ t, exec c s = .next t ∧ t.pending = s.pending

/-- Every invariant below holds of the state after reset. -/
def Obligations.InvariantsHoldAtReset : Prop :=
  State.reset.Capacities ∧ State.reset.Controlled ∧ State.reset.ListSound ∧ State.reset.SightingsSound ∧
  State.reset.MarksSound ∧ State.reset.LocationsSound ∧ State.reset.StandingsSound ∧
  State.reset.EvidenceSound

/-- Every queue, list and table keeps within its capacity and every counter and setting within its range
(R2, R8, R11, R52, R56, R66, R70, R73, R85, R97, R102, R130, R135, R143, R155, R156, R159, R161, R163, R176). -/
def Obligations.CapacitiesAreKept : Prop :=
  ∀ s t : State, s.Capacities → s.Controlled → step s = .next t → t.Capacities

/-- The run, the sweep, the jobs, the read queue, the timer, dormancy and the link's slots keep their
relations (R12, R22, R54, R61, R65, R70, R72, R73, R77, R78, R102, R157, R161, R164). -/
def Obligations.ControlIsKept : Prop :=
  ∀ s t : State, s.Controlled → step s = .next t → t.Controlled

/-- The expected list keeps its ranks, its shelf order and its load record, and every code stands once in
the expected and foreign lists (R17, R18, R19). -/
def Obligations.ListIsKept : Prop :=
  ∀ s t : State, s.Controlled → s.SightingsSound → s.ListSound → step s = .next t → t.ListSound

/-- Reads, sightings and offers keep their codes, kinds and stamps (R18, R51, R70, R71, R90, R91). -/
def Obligations.SightingsAreKept : Prop :=
  ∀ s t : State, s.Controlled → s.ListSound → s.SightingsSound → step s = .next t → t.SightingsSound

/-- The three count marks, IN_SWEEP, LENT_SINCE and RETURNED_SINCE, are held only as R16, R31, R119, R120 and R127
allow: MarksSound has a clause on each, and one on LOADING, where all are clear. -/
def Obligations.MarksAreKept : Prop :=
  ∀ s t : State, s.Controlled → s.ListSound → s.SightingsSound → s.MarksSound → step s = .next t →
    t.MarksSound

/-- The location records follow the sweep, and placements stand on counted locations of the run (R11, R12,
R13, R42). -/
def Obligations.LocationsAreKept : Prop :=
  ∀ s t : State, s.Capacities → s.Controlled → s.ListSound → s.SightingsSound → s.LocationsSound →
    step s = .next t → t.LocationsSound

/-- The standings follow the placements and the order jobs (R35, R40, R99, R109, R111, R112). -/
def Obligations.StandingsAreKept : Prop :=
  ∀ s t : State, s.Capacities → s.Controlled → s.ListSound → s.LocationsSound → s.StandingsSound →
    step s = .next t → t.StandingsSound

/-- The phase of the Evidence Buffer keeps to its mode and to the active anomaly (R147, R148, R149, R151). -/
def Obligations.EvidencePhaseIsKept : Prop :=
  ∀ s t : State, s.EvidenceSound → step s = .next t → t.EvidenceSound

/-! ## Verdicts, totals and counts -/

/-- A run has verdicts in OPEN, CLOSING and CLOSED; the verdict of a placed entry of such a run, and the marks
CONFLICT and RECOVERED, never both (R33, R34, R35, R37). -/
def Obligations.PlacedVerdictsAndMarks : Prop :=
  (∀ r : RunState, r.hasVerdicts = true ↔ r = .opened ∨ r = .closing ∨ r = .closed) ∧
  (∀ (c : CountTable) (e : Entry) (p : Placement), c.run.hasVerdicts = true → e.placement = some p →
     (∀ i, p.loc = .loose i → c.verdict e = some .loose) ∧
     (∀ t, p.loc = .shelf t → p.position = none → c.verdict e = some .heard) ∧
     ∀ t x, p.loc = .shelf t → p.position = some x →
       let standing := if c.run = .closed then e.runStanding else e.shelfStanding
       (standing = .inOrder → t = e.shelf → c.verdict e = some .inPlace) ∧
       (standing = .inOrder → t ≠ e.shelf → c.verdict e = some .shifted) ∧
       (standing = .out → c.verdict e = some .misordered) ∧
       (standing = .pending ∨ standing = .none → c.verdict e = some .pending)) ∧
  ∀ e : Entry,
    (e.conflict = true ↔ e.placement ≠ none ∧ (e.status = .onLoan ∨ e.status = .inTransit) ∧
      e.lentSince = false) ∧
    (e.recovered = true ↔ e.placement ≠ none ∧ e.status = .declaredMissing) ∧
    ¬ (e.conflict = true ∧ e.recovered = true)

/-- The verdict of an unplaced entry of a sealed run (R36). -/
def Obligations.UnplacedVerdicts : Prop :=
  ∀ (c : CountTable) (e : Entry), c.run.hasVerdicts = true → e.placement = none →
    let count := (c.recordAt (.shelf e.shelf)).sweepCount
    (e.status = .onLoan ∨ e.status = .inTransit → c.verdict e = some .accounted) ∧
    (e.status = .available → e.returned ≠ .clear → c.verdict e = some .awaitingShelving) ∧
    (e.status = .available → e.returned = .clear → 1 ≤ count → c.verdict e = some .missing) ∧
    (e.status = .available → e.returned = .clear → count = 0 → c.verdict e = some .notCounted) ∧
    (e.status = .declaredMissing → 1 ≤ count → c.verdict e = some .stillMissing) ∧
    (e.status = .declaredMissing → count = 0 → c.verdict e = some .notCounted)

/-- Every entry of a sealed run has one verdict, and the eleven totals, each the number of entries of its
verdict, in code order, sum to N; before the seal no entry has one (R33, R38). -/
def Obligations.VerdictTotalsSumToN : Prop :=
  (∀ (s : State) (n : Nat), s.ListSound → s.table.run.hasVerdicts = true → s.table.items = some n →
    s.table.totals.length = 11 ∧ s.table.totals.sum = n ∧
    ∀ e ∈ s.table.entries, (Verdict.all.countP (fun v => s.table.verdict e = some v)) = 1) ∧
  (∀ (c : CountTable) (v : Verdict),
    c.total v = (c.entries.filter (fun e => decide (c.verdict e = some v))).length ∧
    c.totals[v.code]? = some (c.total v)) ∧
  ∀ s : State, s.table.run.hasVerdicts = false →
    s.table.totals.sum = 0 ∧ ∀ e ∈ s.table.entries, s.table.verdict e = none

/-- The lookups by rank and by code find the one entry that holds the key, and the kind of a code is listed or
foreign as the lookup finds (R25, R27, R71). Each of the nine counts
of a location counts the entries R41 names: by expected shelf, by placed location, or both with a verdict. The
counts add up, and those of a loose location are 0 where R42 says so (R41, R42). -/
def Obligations.LocationCountsAddUp : Prop :=
  (∀ s : State, s.ListSound →
    (∀ (r : Nat) (e : Entry), s.table.byRank r = some e ↔ e ∈ s.table.entries ∧ e.rank = r) ∧
    (∀ (x : ItemCode) (e : Entry), s.table.byCode x = some e ↔ e ∈ s.table.entries ∧ e.code = x) ∧
    ∀ x : ItemCode,
      (∀ e ∈ s.table.entries, e.code = x → s.table.kindOf x = .listed e.rank) ∧
      ((∀ e ∈ s.table.entries, e.code ≠ x) → s.table.kindOf x = .foreign)) ∧
  (∀ (c : CountTable) (l : Loc),
    let entriesWith := fun q : Entry → Bool => (c.entries.filter q).length
    let foreignWith := fun q : Placement → Bool => (c.foreign.filter (fun f => q f.placement)).length
    let on := fun p : Placement => decide (p.loc = l)
    let placedOn := fun (e : Entry) (q : Placement → Bool) => e.placement.any (fun p => on p && q p)
    let expected := fun e : Entry => decide (l = .shelf e.shelf)
    let has := fun (e : Entry) (v : Verdict) => decide (c.verdict e = some v)
    let always := fun _ : Placement => true
    let positioned := fun p : Placement => decide (p.position ≠ none)
    let heard := fun p : Placement => decide (p.position = none)
    c.expectedCount l = entriesWith expected ∧
    c.placementCount l = entriesWith (fun e => placedOn e always) + foreignWith on ∧
    c.listedCount l = entriesWith (fun e => placedOn e always) ∧
    c.positionedCount l = entriesWith (fun e => placedOn e positioned) +
      foreignWith (fun p => on p && positioned p) ∧
    c.foreignCount l = foreignWith on ∧
    (∀ t, l = .shelf t → c.heardCount l = entriesWith (fun e => placedOn e heard) +
      foreignWith (fun p => on p && heard p)) ∧
    c.missingCount l = entriesWith (fun e => expected e && has e .missing) ∧
    c.misorderedCount l = entriesWith (fun e => placedOn e always && has e .misordered) ∧
    c.pendingCount l = entriesWith (fun e => placedOn e always && has e .pending)) ∧
  (∀ (c : CountTable) (l : Loc), c.placementCount l = c.listedCount l + c.foreignCount l) ∧
  (∀ (c : CountTable) (t : Nat),
    c.placementCount (.shelf t) = c.positionedCount (.shelf t) + c.heardCount (.shelf t)) ∧
  (∀ (s : State) (i : Nat), s.LocationsSound →
    s.table.expectedCount (.loose i) = 0 ∧ s.table.positionedCount (.loose i) = 0 ∧
    s.table.heardCount (.loose i) = 0 ∧ s.table.missingCount (.loose i) = 0 ∧
    s.table.misorderedCount (.loose i) = 0 ∧ s.table.pendingCount (.loose i) = 0) ∧
  ∀ (s : State) (t : Nat), s.LocationsSound → s.table.sweepCount t = 0 →
    s.table.placementCount (.shelf t) = 0 ∧ s.table.missingCount (.shelf t) = 0

/-! ## Geometry -/

/-- Shelf numbers, bays, levels and P_max of a geometry in range (R8). Neighbours are next to one another in a bay
or on a level; the relation is symmetric, no shelf is its own neighbour, and shelves outside the geometry have
none (R9; with one level entry 20). The run's S, P_max and N are those of its geometry; with none S is 0, by the
model's reading of section 1.2 (entry 24), and the others are absent. -/
def Obligations.ShelfNumbersAndNeighbours : Prop :=
  (∀ (c : CountTable),
    (∀ g, c.geometry = some g →
      c.shelfCount = g.shelfCount ∧ c.pMax = some g.pMax ∧ c.items = some g.items) ∧
    (c.geometry = none → c.shelfCount = 0 ∧ c.pMax = none ∧ c.items = none) ∧
    ∀ t, c.isShelf t = true ↔ 1 ≤ t ∧ t ≤ c.shelfCount) ∧
  (∀ g : Geometry, g.InRange →
     (g.shelfCount = g.bays * g.levels ∧ 1 ≤ g.shelfCount ∧ g.shelfCount ≤ 96) ∧
     (g.pMax = g.width + 150 ∧ 750 ≤ g.pMax ∧ g.pMax ≤ 1350) ∧
     (∀ b l, 1 ≤ b → b ≤ g.bays → 1 ≤ l → l ≤ g.levels →
       let t := (b - 1) * g.levels + l
       1 ≤ t ∧ t ≤ g.shelfCount ∧ g.bay t = b ∧ g.level t = l) ∧
     ∀ t, 1 ≤ t → t ≤ g.shelfCount →
       (1 ≤ g.bay t ∧ g.bay t ≤ g.bays) ∧ (1 ≤ g.level t ∧ g.level t ≤ g.levels) ∧
       (g.bay t - 1) * g.levels + g.level t = t) ∧
  ∀ g : Geometry, g.InRange →
    (∀ b l b' l', 1 ≤ b → b ≤ g.bays → 1 ≤ l → l ≤ g.levels → 1 ≤ b' → b' ≤ g.bays → 1 ≤ l' →
      l' ≤ g.levels →
      (g.neighbours ((b - 1) * g.levels + l) ((b' - 1) * g.levels + l') = true ↔
        (b = b' ∧ (l + 1 = l' ∨ l' + 1 = l)) ∨ (l = l' ∧ (b + 1 = b' ∨ b' + 1 = b)))) ∧
    (∀ t u, g.neighbours t u = g.neighbours u t) ∧
    (∀ t, g.neighbours t t = false) ∧
    (∀ t u, t = 0 ∨ g.shelfCount < t → g.neighbours t u = false) ∧
    ∀ t, g.level t = g.levels → g.levels ≠ 1 → g.neighbours t (t + 1) = false

/-! ## Shelf order -/

/-- The sequence of a shelf: the entries placed there with a position, by bucket and then by rank (R103). -/
def Obligations.ShelfSequenceOrder : Prop :=
  ∀ (entries : List Entry) (tolerance t : Nat), (entries.map (·.rank)).Nodup →
    let sequence := shelfSequence entries tolerance t
    sequence.Nodup ∧
    (∀ r, r ∈ sequence ↔ ∃ e ∈ entries, e.rank = r ∧
      ∃ p, e.placement = some p ∧ p.loc = .shelf t ∧ p.position ≠ none) ∧
    ∀ e ∈ entries, ∀ f ∈ entries, ∀ p q x y, e.placement = some p → f.placement = some q →
      p.loc = .shelf t → q.loc = .shelf t → p.position = some x → q.position = some y →
      (sequence.idxOf e.rank < sequence.idxOf f.rank ↔
        x / tolerance < y / tolerance ∨ (x / tolerance = y / tolerance ∧ e.rank < f.rank))

/-- The walk of a sequence: each entry goes on the leftmost pile whose top is greater, or starts a pile at
the right end, and records the top of the pile to the left (R105). -/
def Obligations.PileWalk : Prop :=
  (walk []).row = [] ∧
  ∀ (sequence : List Nat) (r : Nat), (sequence ++ [r]).Nodup →
    let p := walk sequence
    let q := walk (sequence ++ [r])
    let k := p.row.countP (fun pile => pile.headD 0 < r)
    (∀ pile ∈ p.row, pile ≠ []) ∧ (p.row.map (fun pile => pile.headD 0)).Pairwise (· < ·) ∧
    (∀ i pile, p.row[i]? = some pile → (pile.headD 0 < r ↔ i < k)) ∧
    q.row = (if k < p.row.length then p.row.modify k (fun pile => r :: pile) else p.row ++ [[r]]) ∧
    q.predOf r = (if k = 0 then none else (p.row[k - 1]?).bind List.head?) ∧
    (∀ x ∈ sequence, q.predOf x = p.predOf x) ∧
    ∀ x y, q.predOf x = some y →
      y < x ∧ y ∈ sequence ∧ (sequence ++ [r]).idxOf y < (sequence ++ [r]).idxOf x

/-- The read-back of a walk follows predecessors from the top of the rightmost pile; its entries, one for
each pile, rise in rank along the sequence, and no longer rising choice exists (R106). -/
def Obligations.InOrderSetIsLongest : Prop :=
  ∀ sequence : List Nat, sequence.Nodup →
    let p := walk sequence
    let found := p.inOrder
    found.head? = (p.row.getLast?).bind List.head? ∧
    (∀ i, i + 1 < found.length → found[i + 1]? = (found[i]?).bind p.predOf) ∧
    (∀ r, found.getLast? = some r → p.predOf r = none) ∧
    found.length = p.row.length ∧
    found.reverse.Sublist sequence ∧ found.reverse.Pairwise (· < ·) ∧
    (∀ other : List Nat, other.Sublist sequence → other.Pairwise (· < ·) →
      other.length ≤ found.length) ∧
    (∀ r, r ∈ p.ranks ↔ r ∈ sequence) ∧
    ∀ r, p.standing r = if r ∈ found then .inOrder else .out

/-! ## The arithmetic of a sighting -/

/-- A fold adds, renormalises and adds, or freezes; every branch stays within 2^32 - 1 (R86, R87, R88). -/
def Obligations.FoldArithmetic : Prop :=
  ∀ (x : Sighting) (antenna : Antenna) (w p : Nat), x.InRange → w ≤ 255 → p ≤ 1350 →
    let n := if x.reads < 65535 then x.reads + 1 else 65535
    let dm := if antenna = .front then w * p else 0
    let df := if antenna = .front then w else 0
    let db := if antenna = .front then 0 else w
    let fits := x.moment + dm ≤ 2 ^ 32 - 1 ∧ x.front + df ≤ 2 ^ 32 - 1 ∧ x.back + db ≤ 2 ^ 32 - 1
    let y := x.fold (additionsOf antenna w p)
    y.InRange ∧
    (x.frozen = true → y = { x with reads := n }) ∧
    (x.frozen = false → fits →
      y = { x with moment := x.moment + dm, front := x.front + df, back := x.back + db, reads := n }) ∧
    (x.frozen = false → ¬ fits → x.scale < 8 →
      y = { x with moment := x.moment / 2 + dm, front := x.front / 2 + df, back := x.back / 2 + db,
                   scale := x.scale + 1, reads := n }) ∧
    (x.frozen = false → ¬ fits → x.scale = 8 → y = { x with frozen := true, reads := n })

/-- Without a halving the branches are the exact sums over the FRONT and BACK reads, and the estimate lies
between the least and greatest FRONT position of nonzero weight (R85, R90). -/
def Obligations.EstimateBetweenFrontPositions : Prop :=
  ∀ (code : ItemCode) (kind : SightingKind) (reads : List (Antenna × Nat × Nat)) (lo hi pMax : Nat),
    let fold := fun (x : Sighting) (r : Antenna × Nat × Nat) => x.fold (additionsOf r.1 r.2.1 r.2.2)
    let x := reads.foldl fold (newSighting code kind)
    let front := reads.filter (fun r => r.1 = .front)
    x.scale = 0 → x.frozen = false →
    (x.moment = (front.map (fun r => r.2.1 * r.2.2)).sum ∧ x.front = (front.map (fun r => r.2.1)).sum ∧
      x.back = ((reads.filter (fun r => r.1 = .back)).map (fun r => r.2.1)).sum) ∧
    (0 < x.front → hi ≤ pMax → (∀ r ∈ front, 0 < r.2.1 → lo ≤ r.2.2 ∧ r.2.2 ≤ hi) →
      lo ≤ x.estimate pMax ∧ x.estimate pMax ≤ hi)

/-! ## Monitor, evidence, report queue, transmitter -/

/-- An evaluation sets the states of its conditions from their measures, enabled or not. One that names an
enabled condition is an evaluation event: it forms the combined value, moves the counter and the active
state, and at an activation stores the source record, whose set of conditions names none twice, queues ANM,
asks for the long tone and raises the evidence trigger; an evaluation of disabled conditions alone does none of it (R130, R131, R134 to R137). -/
def Obligations.EvaluationMovesTheAnomaly : Prop :=
  (∀ c : Conditions, c.get .missingHi = c.missingHi ∧ c.get .misorderHi = c.misorderHi ∧
    c.get .foreignHi = c.foreignHi ∧ c.get .fillLo = c.fillLo ∧ c.get .rateLo = c.rateLo ∧
    c.get .bleedHi = c.bleedHi) ∧
  (∀ (kind : EvalKind) (l : Loc) (n : Nat) (ms : List (CondCode × Nat)) (s : State),
     (ms.map (·.1)).Nodup →
     let t := s.evaluate kind l n ms
     (∀ x m, (x, m) ∈ ms → t.monitor.conds.get x =
       { s.monitor.conds.get x with
         state :=
           if x = .fillLo ∨ x = .rateLo then decide (m < (s.monitor.conds.get x).threshold)
           else decide ((s.monitor.conds.get x).threshold < m) }) ∧
     (∀ x, x ∉ ms.map (·.1) → t.monitor.conds.get x = s.monitor.conds.get x) ∧
     t.monitor.combine = s.monitor.combine ∧ t.monitor.latched = s.monitor.latched ∧
     t.monitor.duration = s.monitor.duration) ∧
  ∀ (kind : EvalKind) (l : Loc) (n : Nat) (ms : List (CondCode × Nat)) (s : State),
    let t := s.evaluate kind l n ms
    let m := t.monitor
    let enabled := fun x => (m.conds.get x).enabled = true
    let holds := fun x => (m.conds.get x).state = true
    let value := if s.monitor.combine = .any then ∃ x, enabled x ∧ holds x
      else (∃ x, enabled x) ∧ ∀ x, enabled x → holds x
    let event := ∃ x ∈ ms.map (·.1), enabled x
    (¬ event → t = { s with monitor := { s.monitor with conds := m.conds } }) ∧
    (event →
      (value → m.counter = if s.monitor.counter < 16 then s.monitor.counter + 1 else 16) ∧
      (¬ value → m.counter = 0) ∧
      (s.monitor.active = true → (s.monitor.latched = true ∨ value) →
        t = { s with monitor := { s.monitor with conds := m.conds, counter := m.counter } }) ∧
      (s.monitor.active = true → s.monitor.latched = false → ¬ value →
        t = { s with monitor := { s.monitor with conds := m.conds, counter := 0, active := false }
                     evidence := s.evidence.fall }) ∧
      (s.monitor.active = false → m.counter < s.monitor.duration + 1 →
        t = { s with monitor := { s.monitor with conds := m.conds, counter := m.counter } }) ∧
      (s.monitor.active = false → s.monitor.duration + 1 ≤ m.counter →
        ∃ source : SourceRecord, source.kind = kind ∧ source.loc = l ∧ source.sweep = n ∧
          source.conditions.Nodup ∧ (∀ x, x ∈ source.conditions ↔ enabled x ∧ holds x) ∧
          t = { s with
            monitor := { s.monitor with
              conds := m.conds, counter := m.counter, active := true, source := some source }
            link := s.link.queueReport (.anm source)
            panel := s.panel.buzz .longTone
            evidence := s.evidence.rise }))

/-- What the Evidence Buffer does with a copy offered, by its mode and phase; and the phases at a rise and
a fall of the trigger (R145, R146, R147, R148, R149). That FILL appends by the count held, after an ER too while
STOPPED is clear, is R145 as read by entry 25. -/
def Obligations.EvidenceCaptureByMode : Prop :=
  (∀ (r : StampedRead) (e : EvidenceBuffer),
    let rolled : EvidenceBuffer :=
      if e.records.length < 64 then { e with records := e.records ++ [r] }
      else { e with records := e.records.tail ++ [r], overrun := true }
    (e.mode = .off → e.capture r = e) ∧
    (e.mode = .fill → e.stopped = true → e.capture r = e) ∧
    (e.mode = .fill → e.stopped = false → e.capture r =
      { e with records := e.records ++ [r], stopped := decide (64 ≤ e.records.length + 1) }) ∧
    (e.mode = .roll → e.capture r = rolled) ∧
    (e.mode = .rollFreeze → e.phase = .rolling → e.capture r = rolled) ∧
    (e.mode = .rollFreeze → e.phase = .freezing → e.capture r =
      if rolled.records.length = 64 then { rolled with phase := .frozen } else rolled) ∧
    (e.mode = .rollFreeze → e.phase = .frozen → e.capture r = e) ∧
    (e.mode = .armRoll → e.phase = .armed → e.capture r = e) ∧
    (e.mode = .armRoll → e.phase = .capturing → e.capture r = rolled)) ∧
  ∀ e : EvidenceBuffer,
    (e.phase = .rolling → e.rise = { e with phase := .freezing } ∧ e.fall = e) ∧
    (e.phase = .freezing → e.rise = e ∧ e.fall = { e with phase := .rolling }) ∧
    (e.phase = .frozen → e.rise = e ∧ e.fall = { e with phase := .rolling }) ∧
    (e.phase = .armed → e.rise = { e with phase := .capturing } ∧ e.fall = e) ∧
    (e.phase = .capturing → e.rise = e ∧ e.fall = { e with phase := .armed }) ∧
    (e.phase = .none → e.rise = e ∧ e.fall = e)

/-- A report joins the queue behind the others, or is discarded and counted at 48; a CAL that joins sets the
CALL pending mark (R159). At the end of a transmission the transmitter begins the first that applies: the
reply, the oldest refusal, the head report under the FE allowance, the head report under streaming; with none
it is free. The last report of an allowance fills or empties the reserved slot (R158, R160, R161). While a
request can be taken the event goes on to its taking, and the transmitter begins nothing before it (R63, R157,
R160 as read by entry 8). A refusal of the Link Unit's own joins its queue behind the others, or at four waiting
is lost and counted (R156). A busy transmitter goes on with its record, whatever comes to wait (R160). While a
barrier is due, likewise, the event goes on to its completion (R164 as read by entry 8). -/
def Obligations.ReportQueueAndTransmitter : Prop :=
  (∀ (l : LinkUnit) (r : Reply),
     (l.refusals.length < 4 → l.queueRefusal r = { l with refusals := l.refusals ++ [r] }) ∧
     (4 ≤ l.refusals.length → l.queueRefusal r =
       { l with refusalsLost := if l.refusalsLost < 255 then l.refusalsLost + 1 else 255 })) ∧
  (∀ (l : LinkUnit) (x : Outbound), l.sending = some x → l.pump = l) ∧
  (∀ (s : State) (x : Outbound), s.link.sending = some x → s.settled = s) ∧
  (∀ (l : LinkUnit) (r : Report),
     (l.reports.length < 48 → r = .cal →
       l.queueReport r = { l with reports := l.reports ++ [r], callPending := true }) ∧
     (l.reports.length < 48 → r ≠ .cal → l.queueReport r = { l with reports := l.reports ++ [r] }) ∧
     (48 ≤ l.reports.length → l.queueReport r =
       { l with reportsDropped := if l.reportsDropped < 255 then l.reportsDropped + 1 else 255 })) ∧
  ∀ (s : State) (sent : Outbound), s.link.sending = some sent →
    let l := s.link
    let free := { l with sending := none }
    let streaming := l.settings.streaming = 1 ∨ l.barrier = some .all
    let due := ∃ h, s.dueBarrier = some h
    (∀ r, l.reply = .filled r → ¬ due → exec .transmissionEnd s =
      .next { s with link := { l with sending := some (.reply r), reply := .empty } }) ∧
    ((∃ r d, CanTake s r d) ∨ due → exec .transmissionEnd s = .next { s with link := free }) ∧
    ((∀ r, l.reply ≠ .filled r) → (∀ r d, ¬ CanTake s r d) → ¬ due →
      (∀ r rest, l.refusals = r :: rest → exec .transmissionEnd s =
        .next { s with link := { l with sending := some (.reply r), refusals := rest } }) ∧
      (l.refusals = [] → l.reports = [] → exec .transmissionEnd s = .next { s with link := free }) ∧
      (∀ r rest, l.refusals = [] → l.reports = r :: rest →
        let mark := l.callPending && decide (r ≠ .cal)
        let begun := { l with sending := some (.report r), reports := rest, callPending := mark }
        (l.allowance = 0 → ¬ streaming → exec .transmissionEnd s = .next { s with link := free }) ∧
        (l.allowance = 0 → streaming → exec .transmissionEnd s = .next { s with link := begun }) ∧
        ∀ k d, l.reply = .reserved k d →
          (1 < l.allowance → exec .transmissionEnd s = .next { s with link :=
            { begun with allowance := l.allowance - 1, reply := .reserved (k + 1) d } }) ∧
          (l.allowance = 1 → d = .reply → exec .transmissionEnd s = .next { s with link :=
            { begun with
              allowance := 0
              reply := .filled
                { word := [asc 'F', asc 'E'], code := .OK, fields := [.num (k + 1), .num rest.length] } } }) ∧
          (l.allowance = 1 → d ≠ .reply → exec .transmissionEnd s = .next { s with link :=
            { begun with allowance := 0, reply := .empty } })))

/-! ## Requests in general -/

/-- A check-only request is answered CK or with a refusal, and changes no state of any block but the
link's slots and transmitter (R155, R158). -/
def Obligations.ChecksChangeNothing : Prop :=
  ∀ (s : State) (r : Request), (∀ rank code shelf status watch, r ≠ .li rank code shelf status watch) →
    CanTake s r .check →
    ∃ code fields, code ≠ .OK ∧ (code = .CK → fields = []) ∧
      exec (commandOf r) s = .next (s.replied r.word code fields)

/-- An event whose occasion is not there does not occur: nothing changes (entry 2, a choice of the model:
the spec's events come only on their occasions). A read while DORMANT is such an event, the receiver being
powered down (R61); that not even the port drop counter moves is entry 11. -/
def Obligations.EventsWithoutOccasionChangeNothing : Prop :=
  (∀ (s : State) (c : Instr), (∃ r, Takes c r) → (∀ r d, CanTake s r d → ¬ Takes c r) →
    exec c s = .next s) ∧
  ∀ s : State,
    (s.link.filing = false → exec .listItemFilingCompletion s = .next s) ∧
    (s.link.barrier = none → exec .barrierCompletion s = .next s) ∧
    (s.link.sending = none → exec .transmissionEnd s = .next s) ∧
    (s.panel.sounding = none → exec .buzzerPatternEnd s = .next s) ∧
    (s.sweep.phase ≠ .opened → exec .idleExpiry s = .next s) ∧
    (s.port.queue = [] ∨ (s.sweep.phase ≠ .opened ∧ s.sweep.phase ≠ .finalize) →
      exec .readFold s = .next s) ∧
    (s.sweep.phase ≠ .finalize ∨ s.port.queue ≠ [] → exec .handOff s = .next s) ∧
    (s.sweep.phase ≠ .commit → exec .commit s = .next s) ∧
    ((∀ t, s.order.current ≠ .shelf t) → exec .shelfJobCompletion s = .next s) ∧
    (s.order.current ≠ .run → exec .runWideJobCompletion s = .next s) ∧
    ∀ r, s.port.dormancy = .dormant → exec (.tagRead r) s = .next s

/-- At power-on every block takes its power-on value, the strap and the switch as they are read; the free
transmitter and buzzer are entry 7 (R1, R7, R11, R15, R19, R32, R64, R66, R102, R130, R142, R153, R163, R171, R172,
R177). The cleared records of the other statements are those written out here; that the cleared open-sweep record has no
mode and no bleed ratio is entry 26. -/
def Obligations.PowerOnValues : Prop :=
  (LocRecord.cleared =
      { state := .unswept, sweepCount := 0, lastSweep := 0
        facts :=
          { accepted := 0, dropped := 0, acrossAisle := 0, partialMark := false, overtravel := false,
            frozen := false } } ∧
    OrderUnit.cleared =
      { jobs := [], current := .idle, tolerance := none, piles := { row := [], preds := [] } } ∧
    OpenRecord.cleared =
      { number := 0, target := none, mode := none, sighted := 0, bleed := none
        facts :=
          { accepted := 0, dropped := 0, acrossAisle := 0, partialMark := false, overtravel := false,
            frozen := false }
        outcomes :=
          { newPlacements := 0, movedIn := 0, keptElsewhere := 0, foreign := 0, foreignDropped := 0,
            heard := 0 } }) ∧
  ∀ (strap : BaudRate) (switch : SwitchPosition) (s : State),
    let facts : SweepFacts :=
      { accepted := 0, dropped := 0, acrossAisle := 0, partialMark := false, overtravel := false,
        frozen := false }
    let location : LocRecord := { state := .unswept, sweepCount := 0, lastSweep := 0, facts := facts }
    let condition : Condition := { threshold := 0, enabled := false, state := false }
    exec (.powerOn strap switch) s = .next
      { pending := s.pending
        link :=
          { parser := .awaitWord, buffer := [], slot := none, filing := false, barrier := none,
            reply := .empty, refusals := [], refusalsLost := 0, reports := [], reportsDropped := 0,
            allowance := 0, sending := none, callPending := false,
            settings :=
              { floor := 40, bleed := 8, tolerance := 30, idleLimit := 30, attnMode := 0, attnEnable := 0,
                streaming := 1, readout := 0 }
            baud := strap }
        port := { queue := [], position := 0, dormancy := .awake, drops := 0 }
        sweep :=
          { phase := .idle, sightings := [], inFlight := none, lastCommit := none, lastShelf := none,
            idleTimer := none, rateWindow := none
            record :=
              { number := 0, target := none, mode := none, facts := facts, sighted := 0, bleed := none
                outcomes :=
                  { newPlacements := 0, movedIn := 0, keptElsewhere := 0, foreign := 0, foreignDropped := 0,
                    heard := 0 } } }
        table :=
          { run := .empty, geometry := none, load := { nextRank := 1, filed := 0, prevShelf := none },
            entries := [], foreign := [], overflow := 0, shelves := List.replicate 96 location,
            loose := List.replicate 8 location, cursor := 0, sweepNumber := 0 }
        order := { jobs := [], current := .idle, tolerance := none, piles := { row := [], preds := [] } }
        monitor :=
          { combine := .any, latched := false, duration := 0, counter := 0, active := false, source := none
            conds :=
              { missingHi := condition, misorderHi := condition, foreignHi := condition,
                fillLo := condition, rateLo := condition, bleedHi := condition } }
        evidence :=
          { records := [], mode := .off, phase := .none, watermark := 0, stopped := false, overrun := false }
        panel := { switch := switch, sounding := none, waiting := [] } }

/-! ## Characters and records -/

/-- A character that completes no record, one that is no terminator: the parser's table, the assembly buffer and its 81st character
(R155). A character arriving takes no other effect than a pump of the transmitter. That the character which
sends the parser to DISCARDING is stored when the buffer has room, and that those DISCARDING ignores are not,
is entry 9. -/
def Obligations.ParserTable : Prop :=
  (∀ c : Byte, WellFormed (.uartCharacter c) = true ↔ c ≠ 59 ∧ c ≠ 63 ∧ c ≠ 61) ∧
  ∀ (s : State) (c : Byte), WellFormed (.uartCharacter c) = true →
    let l := s.link
    let letter := isLetter c = true
    let digit := isDigit c = true
    let ignored := l.parser = .discarding ∨ (l.parser = .awaitWord ∧ (c = 13 ∨ c = 10))
    let next : Parser :=
      if (l.parser = .awaitWord ∧ letter) ∨ (l.parser = .inWord ∧ l.buffer.length ≠ 2 ∧ letter) then .inWord
      else if (l.parser = .inWord ∧ l.buffer.length = 2 ∧ c = asc ',') ∨
        (l.parser = .inField ∧ (letter ∨ digit ∨ c = asc ',')) then .inField
      else .discarding
    (ignored → exec (.uartCharacter c) s = .next s.settled) ∧
    (¬ ignored → l.buffer.length < 80 → exec (.uartCharacter c) s =
      .next (State.settled { s with link := { l with buffer := l.buffer ++ [c], parser := next } })) ∧
    (¬ ignored → 80 ≤ l.buffer.length → exec (.uartCharacter c) s =
      .next (State.settled { s with link := { l with parser := .discarding } }))

/-- A terminator: before the word is complete it sends the parser to DISCARDING; else it completes the
record, which wakes a dormant controller, empties the buffer, and is refused FM, OV, UK or FM in that order or
enters the holding slot (R62, R155, R156; the word carried and the early terminator are entry 9). What the text
of a record reads as is the statement of the catalogue. A request that enters the slot with the reply slot
empty is taken next, the transmitter beginning nothing before: so RS and DR, which empty the report queue,
discard the WAK of their own wake (R63, R157; entry 8). -/
def Obligations.RecordCompletionFate : Prop :=
  ∀ (s : State) (d : Terminator),
    let l := s.link
    let complete := (l.parser = .inWord ∧ l.buffer.length = 2) ∨ l.parser = .inField ∨
      l.parser = .discarding
    let discarded := l.parser = .discarding ∨ 80 ≤ l.buffer.length
    let word : List Byte :=
      match l.buffer with
      | a :: b :: _ => if isLetter a = true ∧ isLetter b = true then [upper a, upper b] else [63, 63]
      | _ => [63, 63]
    let woken := s.wake .record
    let cleared := { woken.link with buffer := [], parser := .awaitWord }
    let refused := fun code => State.settled
      { woken with link := cleared.queueRefusal { word := word, code := code, fields := [] } }
    (¬ complete → l.buffer.length < 80 → exec (.recordCompletion d) s = .next (State.settled
      { s with link := { l with buffer := l.buffer ++ [terminatorChar d], parser := .discarding } })) ∧
    (¬ complete → 80 ≤ l.buffer.length → exec (.recordCompletion d) s = .next (State.settled
      { s with link := { l with parser := .discarding } })) ∧
    (complete → discarded → exec (.recordCompletion d) s = .next (refused .FM)) ∧
    (complete → ¬ discarded → l.slot ≠ none → exec (.recordCompletion d) s = .next (refused .OV)) ∧
    (complete → ¬ discarded → l.slot = none → readRecord l.buffer = .unknown →
      exec (.recordCompletion d) s = .next (refused .UK)) ∧
    (complete → ¬ discarded → l.slot = none → readRecord l.buffer = .malformed →
      exec (.recordCompletion d) s = .next (refused .FM)) ∧
    (∀ r, complete → ¬ discarded → l.slot = none → readRecord l.buffer = .request r →
      exec (.recordCompletion d) s = .next (State.settled
        { woken with link := { cleared with slot := some { req := r, disp := d } } })) ∧
    (∀ r, complete → ¬ discarded → l.slot = none → readRecord l.buffer = .request r → l.reply = .empty →
      l.filing = false → l.barrier = none → exec (.recordCompletion d) s = .next
        { woken with link := { cleared with slot := some { req := r, disp := d } } }) ∧
    (s.port.dormancy = .awake → woken = s) ∧
    (s.port.dormancy = .dormant → woken =
      { s with port := { s.port with dormancy := .awake }, link := l.queueReport (.wak .record) })

/-- The text of a record, its word of two letters and its fields after commas, reads as the request of the
catalogue that the word names, in either case, and whose fields it spells; a word of the catalogue whose fields
are not so spelled (a required one missing or empty, one too many, too many digits, a wrong letter) is malformed;
any other word is unknown (R154, R155, R156, section 11.6; entries 12 and 23). -/
def Obligations.RequestRecordsAreRead : Prop :=
  (∀ (word : List Byte) (fields : List (List Byte)), word.length = 2 → (∀ f ∈ fields, asc ',' ∉ f) →
    let text := recordText word fields
    let words : List (List Char) :=
      [['R', 'B'], ['L', 'I'], ['C', 'R'], ['R', 'O'], ['D', 'R'], ['S', 'C'], ['C', 'N'], ['Q', 'E'],
        ['Q', 'V'], ['Q', 'H'], ['O', 'S'], ['E', 'S'], ['A', 'S'], ['D', 'O'], ['A', 'C'], ['A', 'M'],
        ['A', 'Q'], ['E', 'M'], ['E', 'R'], ['S', 'T'], ['F', 'E'], ['B', 'A'], ['T', 'S'], ['C', 'V'],
        ['Q', 'S'], ['Q', 'F'], ['R', 'S']]
    let known := ∃ w ∈ words, word.map upper = w.map asc
    (∀ r, readRecord text = .request r ↔ word.map upper = r.letters.map asc ∧ FieldsSpell fields r) ∧
    (known → (∀ r, word.map upper = r.letters.map asc → ¬ FieldsSpell fields r) →
      readRecord text = .malformed) ∧
    (¬ known → readRecord text = .unknown)) ∧
  (∀ r : Request, r.word.text = r.letters.map asc) ∧
  ([.RB, .LI, .CR, .RO, .DR, .SC, .CN, .QE, .QV, .QH, .OS, .ES, .AS, .DO, .AC, .AM, .AQ, .EM, .ER, .ST, .FE,
      .BA, .TS, .CV, .QS, .QF, .RS] : List RequestWord).map RequestWord.text =
    ([['R', 'B'], ['L', 'I'], ['C', 'R'], ['R', 'O'], ['D', 'R'], ['S', 'C'], ['C', 'N'], ['Q', 'E'],
      ['Q', 'V'], ['Q', 'H'], ['O', 'S'], ['E', 'S'], ['A', 'S'], ['D', 'O'], ['A', 'C'], ['A', 'M'],
      ['A', 'Q'], ['E', 'M'], ['E', 'R'], ['S', 'T'], ['F', 'E'], ['B', 'A'], ['T', 'S'], ['C', 'V'],
      ['Q', 'S'], ['Q', 'F'], ['R', 'S']] : List (List Char)).map (fun w => w.map asc)

/-! ## The run and its list -/

/-- RB: its checks in order, and the run it begins (R2, R8, R11, R19). -/
def Obligations.RunBeginBeginsARun : Prop :=
  ∀ (s : State) (b v w n : Nat) (d : Terminator), CanTake s (.rb b v w n) d →
    let g : Geometry := { bays := b, levels := v, width := w, items := n }
    let facts : SweepFacts :=
      { accepted := 0, dropped := 0, acrossAisle := 0, partialMark := false, overtravel := false,
        frozen := false }
    let location : LocRecord := { state := .unswept, sweepCount := 0, lastSweep := 0, facts := facts }
    let begun : CountTable :=
      { s.table with
        run := .loading, geometry := some g, load := { nextRank := 1, filed := 0, prevShelf := none },
        shelves := List.replicate 96 location, loose := List.replicate 8 location }
    (¬ g.InRange → exec .runBegin s = .next (s.replied .RB .RG [])) ∧
    (g.InRange → s.table.run ≠ .empty → exec .runBegin s = .next (s.replied .RB .SA [])) ∧
    (g.InRange → s.table.run = .empty →
      exec .runBegin s = .next (s.accepted { s with table := begun } .RB d []))

/-- LI: the taking begins the filing and keeps the holding slot (R22); the filing completion makes the
checks of R21 in order and files the entry, the entry of rank N sealing the list (R3, R16, R19, R21, R23). -/
def Obligations.ListItemIsFiled : Prop :=
  ∀ (s : State) (rank code shelf status watch : Nat) (d : Terminator),
    (CanTake s (.li rank code shelf status watch) d →
      exec .listItem s = .next (State.settled { s with link := { s.link with filing := true } })) ∧
    (s.link.filing = true → s.link.slot = some { req := .li rank code shelf status watch, disp := d } →
      let item : ItemCode := BitVec.ofNat 64 code
      let c := s.table
      let t := { s with link := { s.link with filing := false } }
      let form := item ≠ 0 ∧ status ≤ 3 ∧ watch ≤ 1
      let onShelf := 1 ≤ shelf ∧ shelf ≤ c.shelfCount
      (¬ form → exec .listItemFilingCompletion s = .next (t.replied .LI .RG [])) ∧
      (form → c.run ≠ .loading → exec .listItemFilingCompletion s =
        .next (t.replied .LI .SA [.num c.run.code])) ∧
      (form → c.run = .loading → ¬ onShelf → exec .listItemFilingCompletion s =
        .next (t.replied .LI .RG [.num c.shelfCount])) ∧
      (form → c.run = .loading → onShelf → rank ≠ c.load.nextRank → exec .listItemFilingCompletion s =
        .next (t.replied .LI .SQ [.num c.load.nextRank])) ∧
      (form → c.run = .loading → onShelf → rank = c.load.nextRank →
        (∀ e, c.byCode item = some e → exec .listItemFilingCompletion s =
          .next (t.replied .LI .DP [.num e.rank])) ∧
        (c.byCode item = none →
          (∀ p, c.load.prevShelf = some p → shelf < p → exec .listItemFilingCompletion s =
            .next (t.replied .LI .OR [.num p])) ∧
          ((∀ p, c.load.prevShelf = some p → p ≤ shelf) → ∀ g st, c.geometry = some g →
            statusOfCode status = some st →
            let last := rank = g.items
            let next := if last then 0 else rank + 1
            let entry : Entry :=
              { rank := rank, code := item, shelf := shelf, watch := decide (watch = 1), status := st,
                placement := none, shelfStanding := .none, runStanding := .none, inSweep := false,
                lentSince := false, returned := .clear }
            let filed : CountTable :=
              { c with
                entries := c.entries ++ [entry]
                load := { nextRank := next, filed := c.load.filed + 1, prevShelf := some shelf }
                run := if last then .opened else .loading
                cursor := if last then 1 else c.cursor }
            exec .listItemFilingCompletion s =
              .next (t.accepted { t with table := filed } .LI d [.num rank, .num next])))))

/-- CR and RO: the checks in order, CLOSING with the run-wide job begun, and OPEN again with every run
standing NONE (R4, R6, R111). The run-wide sequence of that job is the sequence of shelf 1, that of shelf 2, and so
on to shelf S, and holds every positioned entry and no other (R104). -/
def Obligations.RunClosesAndReopens : Prop :=
  (∀ (s : State) (force : Nat) (d : Terminator), CanTake s (.cr force) d →
    let c := s.table
    let counted := fun t => 1 ≤ c.sweepCount t
    let tolerance := s.link.settings.tolerance
    let closed : State :=
      { s with
        table := { c with run := .closing }
        order :=
          { jobs := [], current := .run, tolerance := some tolerance,
            piles := walk (runSequence c.entries tolerance c.shelfNumbers) } }
    (1 < force → exec .runClose s = .next (s.replied .CR .RG [])) ∧
    (force ≤ 1 → c.run ≠ .opened → exec .runClose s = .next (s.replied .CR .SA [])) ∧
    (force ≤ 1 → c.run = .opened → s.sweep.phase ≠ .idle →
      exec .runClose s = .next (s.replied .CR .BY [])) ∧
    (force ≤ 1 → c.run = .opened → s.sweep.phase = .idle →
      (∀ t, force = 0 → 1 ≤ t → t ≤ c.shelfCount → ¬ counted t → (∀ u, 1 ≤ u → u < t → counted u) →
        exec .runClose s = .next (s.replied .CR .US [.num t])) ∧
      (force = 1 ∨ (∀ t, 1 ≤ t → t ≤ c.shelfCount → counted t) →
        exec .runClose s = .next (s.accepted closed .CR d [])))) ∧
  ((∀ (c : CountTable) (tolerance : Nat),
      c.shelfNumbers = (List.range c.shelfCount).map (fun i => i + 1) ∧
      runSequence c.entries tolerance c.shelfNumbers =
        ((List.range c.shelfCount).map (fun i => shelfSequence c.entries tolerance (i + 1))).flatten) ∧
    ∀ s : State, s.LocationsSound → ∀ tolerance r,
      r ∈ runSequence s.table.entries tolerance s.table.shelfNumbers ↔
        ∃ e ∈ s.table.entries, e.rank = r ∧
          ∃ p t, e.placement = some p ∧ p.loc = .shelf t ∧ p.position ≠ none) ∧
  ∀ (s : State) (d : Terminator), CanTake s .ro d →
    let entries := s.table.entries.map (fun e => { e with runStanding := .none })
    (s.table.run ≠ .closed → exec .runReopen s = .next (s.replied .RO .SA [])) ∧
    (s.table.run = .closed → exec .runReopen s = .next
      (s.accepted { s with table := { s.table with run := .opened, entries := entries } } .RO d []))

/-- DR and RS: every block takes the values its chapter states, and the reply says whether a sweep was
ended or abandoned (R7, R32, R55, R64, R66, R83, R102, R129, R142, R153, R163, R169, R170, R171, R177). An RS
that meets a sweep in OPEN or FINALIZE abandons it, as the statement of AS describes; that RATE_LO and BLEED_HI
are then false with the other condition states is entry 22; that the open-sweep record has no mode and no bleed
ratio after DR is entry 26. -/
def Obligations.DiscardAndSoftReset : Prop :=
  (∀ (s : State) (d : Terminator), CanTake s .dr d →
    let location := LocRecord.cleared
    let t : State :=
      { s with
        link := { s.link with reports := [], callPending := false, allowance := 0, barrier := none }
        port := { s.port with queue := [], dormancy := .awake }
        sweep :=
          { phase := .idle, record := OpenRecord.cleared, sightings := [], inFlight := none,
            lastCommit := none, lastShelf := none, idleTimer := none, rateWindow := none }
        table :=
          if s.table.run = .empty then s.table
          else
            { run := .empty, geometry := none, load := { nextRank := 1, filed := 0, prevShelf := none },
              entries := [], foreign := [], overflow := 0, shelves := List.replicate 96 location,
              loose := List.replicate 8 location, cursor := 0, sweepNumber := 0 }
        order := { jobs := [], current := .idle, tolerance := none, piles := { row := [], preds := [] } }
        monitor := s.monitor.reset
        evidence :=
          { records := [], mode := .off, phase := .none, watermark := s.evidence.watermark,
            stopped := false, overrun := false } }
    exec .discardRun s = .next (s.accepted t .DR d
      (if s.sweep.phase = .idle then [.num 0, .absent] else [.num 1, .num s.sweep.record.number]))) ∧
  (∀ (s : State) (d : Terminator), CanTake s .rs d →
    let abandoned := s.sweep.phase = .opened ∨ s.sweep.phase = .finalize
    let a := if abandoned then s.abandonSweep else s
    let t : State :=
      { a with
        link :=
          { s.link with
            parser := .awaitWord, buffer := [], refusals := [], refusalsLost := 0, reports := [],
            reportsDropped := 0, callPending := false, allowance := 0, barrier := none }
        port := { s.port with queue := [], dormancy := .awake }
        monitor := s.monitor.reset
        evidence :=
          { records := [], mode := .off, phase := .none, watermark := s.evidence.watermark,
            stopped := false, overrun := false } }
    exec .softReset s = .next (s.accepted t .RS d
      (if abandoned then [.num 1, .num s.sweep.record.number] else [.num 0, .absent]))) ∧
  ∀ m : Monitor,
    (∀ x, m.reset.conds.get x = { m.conds.get x with state := false }) ∧
    m.reset = { m with conds := m.reset.conds, counter := 0, active := false, source := none }

/-- SC, CV and TS: the checks in order, the cursor set, the lowest unswept shelf named, and the categories of the
mask that are true; CV and TS change nothing (R14, R165, R166; the empty field of CV is entry 16). -/
def Obligations.CursorCoverageAndTest : Prop :=
  ((∀ (s : State) (t : Nat) (d : Terminator), CanTake s (.sc t) d →
     let onShelf := 1 ≤ t ∧ t ≤ s.table.shelfCount
     let taken := s.table.run = .opened ∨ s.table.run = .closing ∨ s.table.run = .closed
     (¬ onShelf → exec .cursorSet s = .next (s.replied .SC .RG [])) ∧
     (onShelf → ¬ taken → exec .cursorSet s = .next (s.replied .SC .SA [])) ∧
     (onShelf → taken → exec .cursorSet s = .next
       (s.accepted { s with table := { s.table with cursor := t } } .SC d [.num t]))) ∧
   ∀ (s : State) (d : Terminator), CanTake s .cv d →
     let counted := fun t => 1 ≤ s.table.sweepCount t
     let early := s.table.run = .empty ∨ s.table.run = .loading
     (early → exec .coverageRequest s = .next (s.replied .CV .SA [])) ∧
     (¬ early → (∀ t, 1 ≤ t → t ≤ s.table.shelfCount → counted t) →
       exec .coverageRequest s = .next (s.accepted s .CV d [.letter (asc 'Y'), .absent])) ∧
     (∀ t, ¬ early → 1 ≤ t → t ≤ s.table.shelfCount → ¬ counted t → (∀ u, 1 ≤ u → u < t → counted u) →
       exec .coverageRequest s = .next (s.accepted s .CV d [.letter (asc 'N'), .num t]))) ∧
  ∀ (s : State) (mask : Nat) (d : Terminator), CanTake s (.ts mask) d →
    let bit := fun (b : Nat) (category : Bool) => if category && mask.testBit b then 2 ^ b else 0
    let entry := fun v => s.table.entries.any (fun e => decide (s.table.verdict e = some v))
    let lastFrozen := match s.sweep.lastCommit with
      | some l => (s.table.recordAt l.target).facts.frozen
      | none => false
    let selected := bit 0 (entry .missing) + bit 1 (entry .misordered) +
      bit 2 (decide (s.table.foreign ≠ [])) + bit 3 s.monitor.active + bit 4 s.evidence.overrun +
      bit 5 (decide (s.port.drops ≠ 0)) + bit 6 lastFrozen + bit 7 (decide (s.link.reportsDropped ≠ 0))
    exec .testRequest s = .next (s.accepted s .TS d
      [.letter (if selected = 0 then asc 'N' else asc 'Y'), .num selected])

/-- CN: the checks in order; in LOADING the status alone is set, a status already held changes nothing, and
otherwise the mark step of the new status is made on the one entry of the code (R30, R31, R118 to R121). -/
def Obligations.CirculationNotice : Prop :=
  (∀ (u : SweepUnit) (t : Nat), u.windowOpen t = true ↔
    (u.phase = .opened ∨ u.phase = .finalize ∨ u.phase = .commit) ∧ u.record.target = some (.shelf t)) ∧
  ∀ (s : State) (code status : Nat) (d : Terminator), CanTake s (.cn code status) d →
    let item : ItemCode := BitVec.ofNat 64 code
    let form := item ≠ 0 ∧ status ≤ 3
    (¬ form → exec .circulationNotice s = .next (s.replied .CN .RG [])) ∧
    (form → s.table.run = .empty → exec .circulationNotice s = .next (s.replied .CN .SA [])) ∧
    (form → s.table.run ≠ .empty → s.table.byCode item = none →
      exec .circulationNotice s = .next (s.replied .CN .NF [])) ∧
    ∀ e st, form → s.table.run ≠ .empty → s.table.byCode item = some e → statusOfCode status = some st →
      let noticed := fun x : Entry =>
        let window := (s.sweep.phase = .opened ∨ s.sweep.phase = .finalize ∨ s.sweep.phase = .commit) ∧
          s.sweep.record.target = some (.shelf x.shelf)
        let seen := x.lentSince || x.placement.isSome || x.inSweep
        let returned :=
          if x.placement ≠ none then x.returned
          else if window then .setDuring
          else if 1 ≤ s.table.sweepCount x.shelf then .set
          else x.returned
        if s.table.run = .loading then { x with status := st }
        else if x.status = st then x
        else if st = .onLoan ∨ st = .inTransit then { x with status := st, lentSince := seen }
        else if st = .available then { x with status := st, lentSince := false, returned := returned }
        else { x with status := st }
      let entries := s.table.entries.map (fun x => if x.code = item then noticed x else x)
      exec .circulationNotice s = .next (s.accepted
        { s with table := { s.table with entries := entries } } .CN d [.num e.rank, .num status])

/-! ## Queries -/

/-- QE and QH: the checks in order, and the fields of the reply; neither changes anything (R28, R29, R41, R47,
R48, R170). -/
def Obligations.EntryAndLocationQueries : Prop :=
  (∀ (s : State) (selector key : Nat) (d : Terminator), CanTake s (.qe selector key) d →
    let item : ItemCode := BitVec.ofNat 64 key
    let byRank := selector = 82
    let byCode := selector = 67
    let found := fun e : Entry =>
      [Field.num e.rank, .code e.code, .num e.shelf, .num e.status.code, .flag e.watch] ++
      (match e.placement with
        | some p => [.loc p.loc, .opt p.position, .num p.strength, .num p.sweep, .num p.reads]
        | none => [.absent, .absent, .absent, .absent, .absent]) ++
      [.num e.shelfStanding.code, .num e.runStanding.code, .flag e.inSweep, .flag e.lentSince,
        .num e.returned.code, .opt ((s.table.verdict e).map Verdict.code), .flag e.conflict,
        .flag e.recovered]
    (¬ byRank → (¬ byCode ∨ item = 0) → exec .entryQuery s = .next (s.replied .QE .RG [])) ∧
    (byRank ∨ (byCode ∧ item ≠ 0) → s.table.run = .empty →
      exec .entryQuery s = .next (s.replied .QE .SA [])) ∧
    (byRank → s.table.run ≠ .empty → ∀ n, s.table.items = some n →
      (key = 0 ∨ n < key → exec .entryQuery s = .next (s.replied .QE .RG [])) ∧
      (1 ≤ key → key ≤ n →
        (∀ e, s.table.entries[key - 1]? = some e →
          exec .entryQuery s = .next (s.accepted s .QE d (found e))) ∧
        (s.table.entries[key - 1]? = none → exec .entryQuery s = .next (s.replied .QE .NF [])))) ∧
    (byCode → item ≠ 0 → s.table.run ≠ .empty →
      (∀ e, s.table.byCode item = some e →
        exec .entryQuery s = .next (s.accepted s .QE d (found e))) ∧
      (s.table.byCode item = none → exec .entryQuery s = .next (s.replied .QE .NF [])))) ∧
  ∀ (s : State) (number : Nat) (d : Terminator), CanTake s (.qh number) d →
    let c := s.table
    let given := fun n => if c.run = .loading then Field.absent else .num n
    let fields := fun l : Loc =>
      let r := c.recordAt l
      [Field.num number, .num r.state.code, .num r.sweepCount, .num r.lastSweep, .num r.facts.accepted,
        .num r.facts.dropped, .num r.facts.acrossAisle, .flag r.facts.partialMark,
        .flag r.facts.overtravel, .flag r.facts.frozen, .num (c.expectedCount l),
        .num (c.placementCount l), .num (c.listedCount l), .num (c.positionedCount l),
        .num (c.foreignCount l), .num (c.heardCount l), given (c.missingCount l),
        given (c.misorderedCount l), given (c.pendingCount l)]
    let shelf := 1 ≤ number ∧ number ≤ c.shelfCount
    let loose := 129 ≤ number ∧ number ≤ 136
    (c.run = .empty → exec .locationQuery s = .next (s.replied .QH .SA [])) ∧
    (c.run ≠ .empty → ¬ shelf → ¬ loose →
      exec .locationQuery s = .next (s.replied .QH .RG [.num c.shelfCount])) ∧
    (c.run ≠ .empty → shelf →
      exec .locationQuery s = .next (s.accepted s .QH d (fields (.shelf number)))) ∧
    (c.run ≠ .empty → c.shelfCount ≤ 96 → loose →
      exec .locationQuery s = .next (s.accepted s .QH d (fields (.loose (number - 128)))))

/-- QV and QF: the checks in order, the page returned and where the walk resumes; neither changes anything
(R45, R46, R168, R170). -/
def Obligations.PagedQueries : Prop :=
  (∀ (s : State) (code start : Nat) (count : Option Nat) (d : Terminator), CanTake s (.qv code start count) d →
    let size := match count with
      | none => 8
      | some k => max 1 (min k 8)
    let sealed := s.table.run = .opened ∨ s.table.run = .closing ∨ s.table.run = .closed
    (10 < code ∨ start = 0 → exec .verdictQuery s = .next (s.replied .QV .RG [])) ∧
    (code ≤ 10 → 1 ≤ start → ¬ sealed → exec .verdictQuery s = .next (s.replied .QV .SA [])) ∧
    ∀ v n, v.code = code → 1 ≤ start → sealed → s.table.items = some n →
      let page := (s.table.entries.filter
        (fun e => decide (start ≤ e.rank) && decide (s.table.verdict e = some v))).take size
      ∃ resume,
        ((page.length = size ∧ ∃ e, page.getLast? = some e ∧ e.rank < n ∧ resume = e.rank + 1) ∨
          ((page.length < size ∨ ∃ e, page.getLast? = some e ∧ n ≤ e.rank) ∧ resume = 0)) ∧
        exec .verdictQuery s = .next (s.accepted s .QV d ([.num page.length, .num resume] ++
          page.flatMap (fun e =>
            [.num e.rank, .code e.code, .num e.shelf, .num e.status.code,
              .locOpt (e.placement.map (·.loc)), .flag e.conflict, .flag e.recovered])))) ∧
  ∀ (s : State) (start : Nat) (count : Option Nat) (d : Terminator), CanTake s (.qf start count) d →
    let size := match count with
      | none => 8
      | some k => max 1 (min k 8)
    let page := (s.table.foreign.drop (start - 1)).take size
    let resume := if start - 1 + size < s.table.foreign.length then start + size else 0
    (start = 0 → exec .foreignListQuery s = .next (s.replied .QF .RG [])) ∧
    (1 ≤ start → s.table.run = .empty → exec .foreignListQuery s = .next (s.replied .QF .SA [])) ∧
    (1 ≤ start → s.table.run ≠ .empty →
      exec .foreignListQuery s = .next (s.accepted s .QF d ([.num page.length, .num resume] ++
        page.flatMap (fun f =>
          [.code f.code, .loc f.placement.loc, .opt f.placement.position, .num f.placement.strength,
            .num f.placement.sweep, .num f.placement.reads, .num f.sighted]))))

/-- QS: the values of R167 in its order, an absent one where the state gives none; nothing changes. That S is
written 0 in EMPTY, and not as an absent value, is the model's reading of section 1.2 against the chapter's table
of reset values (entry 24). -/
def Obligations.StatusSummary : Prop :=
  ∀ (s : State) (d : Terminator), CanTake s .qs d →
    let c := s.table
    let r := s.sweep.record
    let e := s.evidence
    let early := c.run = .empty ∨ c.run = .loading
    let run := [Field.num c.run.code, .opt c.items, .num c.load.filed, .num c.load.nextRank,
      .num c.shelfCount, .opt c.pMax, .num c.cursor, .num c.sweepNumber]
    let sweep := [Field.num s.sweep.phase.code, .num r.number, .locOpt r.target,
      (match r.mode with
        | some .new => .letter (asc 'N')
        | some .recount => .letter (asc 'R')
        | none => .absent),
      .num r.facts.accepted, .num r.facts.dropped, .num r.facts.acrossAisle, .num r.sighted,
      .flag r.facts.partialMark, .flag r.facts.overtravel, .flag r.facts.frozen,
      .num r.outcomes.newPlacements, .num r.outcomes.movedIn, .num r.outcomes.keptElsewhere,
      .num r.outcomes.foreign, .num r.outcomes.foreignDropped, .num r.outcomes.heard, .opt r.bleed,
      .num s.sweep.sightings.length, .opt (s.sweep.lastCommit.map (·.number)),
      .locOpt (s.sweep.lastCommit.map (·.target)), .opt s.sweep.lastShelf]
    let branch := fun n => if n < 2 ^ 24 then Field.num n else .guarded
    let head := match s.sweep.sightings.head? with
      | some x => [Field.code x.code, .num x.reads, branch x.moment, branch x.front, branch x.back,
          .num x.scale, .flag x.frozen]
      | none => List.replicate 7 .absent
    let port := [Field.num s.port.position, .num (if s.port.dormancy = .dormant then 1 else 0),
      .num s.port.drops]
    let count := if early then List.replicate 15 Field.absent
      else Verdict.all.map (fun v => Field.num (c.total v)) ++
        [.num (c.entries.countP Entry.conflict), .num (c.entries.countP Entry.recovered),
          .num c.foreign.length, .num c.overflow]
    let rest := [Field.num s.link.settings.floor, .num s.link.settings.bleed,
      .num s.link.settings.tolerance, .num s.link.settings.idleLimit, .flag s.monitor.active,
      .num e.mode.code, .num e.phase.code, .num e.records.length, .num e.watermark, .flag e.stopped,
      .flag (decide (e.phase = .frozen)), .flag e.overrun, .flag (decide (e.watermark < e.records.length)),
      .num (if s.panel.switch = .localMode then 1 else 0), .num s.link.reports.length,
      .num s.link.reportsDropped, .num s.link.refusalsLost, .num s.link.settings.streaming]
    exec .statusRequest s = .next
      (s.accepted s .QS d (run ++ sweep ++ head ++ port ++ count ++ rest))

/-! ## Opening, ending and abandoning a sweep -/

/-- OS: its checks in order, and all that takes place when a sweep opens (R12, R15, R66, R67, R69, R72,
R73). The record of a location of the run that is written is read back, and no other is changed (R11, R12). -/
def Obligations.OpenRequestOpensASweep : Prop :=
  (∀ (s : State) (target mode : Nat) (d : Terminator), CanTake s (.os target mode) d →
    let c := s.table
    let n := 78
    let r := 82
    let form := mode = n ∨ mode = r
    let isLoc := (1 ≤ target ∧ target ≤ c.shelfCount) ∨ (129 ≤ target ∧ target ≤ 136)
    (¬ form → exec .openRequest s = .next (s.replied .OS .RG [])) ∧
    (form → s.panel.switch = .localMode → exec .openRequest s = .next (s.replied .OS .LC [])) ∧
    (form → s.panel.switch = .remote → c.run ≠ .opened → exec .openRequest s =
      .next (s.replied .OS .SA [.num c.run.code])) ∧
    (form → s.panel.switch = .remote → c.run = .opened → s.sweep.phase ≠ .idle → exec .openRequest s =
      .next (s.replied .OS .BY [.num s.sweep.phase.code, .num s.sweep.record.number])) ∧
    (form → s.panel.switch = .remote → c.run = .opened → s.sweep.phase = .idle →
      (¬ isLoc → exec .openRequest s = .next (s.replied .OS .RG [.num c.shelfCount])) ∧
      (isLoc →
        let l := if target ≤ c.shelfCount then Loc.shelf target else Loc.loose (target - 128)
        let m := if mode = n then SweepMode.new else SweepMode.recount
        let number := if c.sweepNumber < 65535 then c.sweepNumber + 1 else 1
        exec .openRequest s = .next (s.accepted (s.openSweep l m) .OS d
          [.num number, .num target, .letter (BitVec.ofNat 8 mode)])))) ∧
  (∀ (s : State) (l : Loc) (r : LocRecord), s.Capacities → s.table.hasLoc l = true →
    let t := s.table.setRecord l r
    t.recordAt l = r ∧ (∀ k, k ≠ l → t.recordAt k = s.table.recordAt k) ∧
    t = { s.table with shelves := t.shelves, loose := t.loose }) ∧
  (∀ (c : CountTable) (i : Nat) (r : LocRecord),
    (c.shelves[i]? = some r → c.recordAt (.shelf (i + 1)) = r ∧ c.sweepCount (i + 1) = r.sweepCount) ∧
    (c.loose[i]? = some r → c.recordAt (.loose (i + 1)) = r)) ∧
  ∀ (s : State) (l : Loc) (m : SweepMode),
    let c := s.table
    let number := if c.sweepNumber < 65535 then c.sweepNumber + 1 else 1
    let t := s.openSweep l m
    t = { s with
      table :=
        { c.setRecord l { c.recordAt l with state := .sweeping } with sweepNumber := number }
      port := { s.port with position := 0 }
      sweep :=
        { s.sweep with
          phase := .opened, sightings := [], idleTimer := some s.link.settings.idleLimit
          rateWindow := if l.isShelf = true then some { start := 0, count := 0 } else none
          record :=
            { OpenRecord.cleared with number := number, target := some l, mode := some m } }
      monitor := { s.monitor with conds := t.monitor.conds }
      panel := s.panel.buzz .oneShort } ∧
    (∀ x, t.monitor.conds.get x =
      if x = .rateLo ∨ x = .bleedHi then { s.monitor.conds.get x with state := false }
      else s.monitor.conds.get x)

/-- ES and DO: the checks in order; the sweep ends into FINALIZE with the bleed ratio captured; the receiver
is powered down (R61, R75, R76, R77). -/
def Obligations.EndAndDormancyRequests : Prop :=
  (∀ (s : State) (d : Terminator), CanTake s .es d →
    let ended : State :=
      { s with
        sweep :=
          { s.sweep with
            phase := .finalize, idleTimer := none, rateWindow := none
            record := { s.sweep.record with bleed := some s.link.settings.bleed } } }
    (s.panel.switch = .localMode → exec .endRequest s = .next (s.replied .ES .LC [])) ∧
    (s.panel.switch = .remote → s.sweep.phase ≠ .opened → exec .endRequest s =
      .next (s.replied .ES .SA [.num s.sweep.phase.code])) ∧
    (s.panel.switch = .remote → s.sweep.phase = .opened → exec .endRequest s =
      .next (s.accepted ended .ES d [.num s.sweep.record.number]))) ∧
  ∀ (s : State) (d : Terminator), CanTake s .dorm d →
    (s.sweep.phase ≠ .idle → exec .dormancyRequest s =
      .next (s.replied .DO .SA [.num s.sweep.phase.code])) ∧
    (s.sweep.phase = .idle → exec .dormancyRequest s =
      .next (s.accepted { s with port := { s.port with dormancy := .dormant } } .DO d []))

/-- AS and the idle expiry: the checks of AS, all that an abandonment undoes, the SWA report, and the three
short beeps of an expiry (R12, R55, R74, R81, R82, R84). -/
def Obligations.AbandonmentOfASweep : Prop :=
  (∀ (s : State) (d : Terminator), CanTake s .as d →
    let r := s.sweep.record
    let swa : Report := .swa r.number r.target .host s.sweep.phase r.facts.accepted r.facts.dropped
    let t := s.abandonSweep
    (s.sweep.phase = .idle → exec .abandonRequest s = .next (s.replied .AS .SA [.num 0])) ∧
    (s.sweep.phase = .commit ∨ s.sweep.phase = .order → exec .abandonRequest s =
      .next (s.replied .AS .BY [.num s.sweep.phase.code])) ∧
    (s.sweep.phase = .opened ∨ s.sweep.phase = .finalize → exec .abandonRequest s =
      .next (s.accepted { t with link := s.link.queueReport swa } .AS d [.num r.number]))) ∧
  (∀ s : State, s.sweep.phase = .opened →
    let r := s.sweep.record
    let swa : Report := .swa r.number r.target .idle .opened r.facts.accepted r.facts.dropped
    exec .idleExpiry s = .next (State.settled
      { s.abandonSweep with link := s.link.queueReport swa, panel := s.panel.buzz .threeShort })) ∧
  ∀ (s : State) (l : Loc), s.sweep.record.target = some l →
    let t := s.abandonSweep
    let sighted := fun e : Entry => ∃ x ∈ s.sweep.sightings, x.kind = .listed e.rank
    let entries := s.table.entries.map (fun e =>
      { e with
        inSweep := e.inSweep && decide (e.rank ∉ listedRanks s.sweep.sightings)
        returned :=
          if l = .shelf e.shelf ∧ e.returned = .setDuring then .set else e.returned })
    let left := { s.table.recordAt l with
      state := if (s.table.recordAt l).sweepCount = 0 then .unswept else .swept }
    t = { s with
      port := { s.port with queue := [] }
      table := { s.table with entries := entries }.setRecord l left
      sweep := { s.sweep with phase := .idle, sightings := [], idleTimer := none, rateWindow := none } } ∧
    ∀ e ∈ s.table.entries, e.rank ∈ listedRanks s.sweep.sightings ↔ sighted e

/-! ## Monitor, evidence and settings requests -/

/-- AC, AM and AQ: the checks in order, the values taken, and the reply of AQ, which gives the monitor as AQ found
it and ends a latched active anomaly with its counter 0 (R137, R139, R140, R141, R149). -/
def Obligations.MonitorRequestsTakeEffect : Prop :=
  ((∀ (s : State) (code threshold enable : Nat) (d : Terminator), CanTake s (.ac code threshold enable) d →
     let m := s.monitor
     (code = 0 ∨ 6 < code ∨ 1 < enable → exec .conditionRequest s = .next (s.replied .AC .RG [])) ∧
     ∀ x : CondCode, x.code = code → enable ≤ 1 →
       let taken := min threshold 255
       ∃ conds : Conditions,
         conds.get x = { m.conds.get x with threshold := taken, enabled := decide (enable = 1) } ∧
         (∀ y, y ≠ x → conds.get y = m.conds.get y) ∧
         exec .conditionRequest s = .next (s.accepted { s with monitor := { m with conds := conds } } .AC d
           [.num code, .num taken, .num enable, .flag (m.conds.get x).state])) ∧
   ∀ (s : State) (combine latch duration : Nat) (d : Terminator), CanTake s (.am combine latch duration) d →
     let mode : CombineMode := if combine = 0 then .any else .all
     let taken := min duration 15
     (1 < combine ∨ 1 < latch → exec .modeRequest s = .next (s.replied .AM .RG [])) ∧
     (combine ≤ 1 → latch ≤ 1 → exec .modeRequest s = .next (s.accepted
       { s with
         monitor :=
           { s.monitor with combine := mode, latched := decide (latch = 1), duration := taken, counter := 0 } }
       .AM d [.num combine, .num latch, .num taken]))) ∧
  ∀ (s : State) (d : Terminator), CanTake s .aq d →
    let m := s.monitor
    let fields :=
      [Field.flag m.active, .num (if m.combine = .any then 0 else 1), .flag m.latched, .num m.duration,
        .num m.counter] ++
      ([.missingHi, .misorderHi, .foreignHi, .fillLo, .rateLo, .bleedHi] : List CondCode).flatMap (fun x =>
        [.num (m.conds.get x).threshold, .flag (m.conds.get x).enabled, .flag (m.conds.get x).state]) ++
      (match m.source with
        | some r =>
          [.letter (match r.kind with
            | .rate => asc 'R'
            | .bleed => asc 'B'
            | .shelf => asc 'S'),
            .num (conditionSet r.conditions), .loc r.loc, .num r.sweep]
        | none => [.absent, .absent, .absent, .absent])
    (m.latched = true → m.active = true → exec .acknowledgeRequest s = .next (s.accepted
      { s with monitor := { m with counter := 0, active := false }, evidence := s.evidence.fall }
      .AQ d fields)) ∧
    (m.latched = false ∨ m.active = false →
      exec .acknowledgeRequest s = .next (s.accepted s .AQ d fields))

/-- EM and ER: EM empties the buffer and sets mode, watermark and first phase; ER removes the oldest records
and returns them (R147, R148, R150, R151, R152, R170). -/
def Obligations.EvidenceRequests : Prop :=
  (∀ (s : State) (mode watermark : Nat) (d : Terminator), CanTake s (.em mode watermark) d →
    let taken := min watermark 63
    let active := s.monitor.active = true
    (4 < mode → exec .evidenceModeRequest s = .next (s.replied .EM .RG [])) ∧
    ∀ m : EvidenceMode, m.code = mode →
      let phase : EvidencePhase :=
        if m = .rollFreeze then (if active then .freezing else .rolling)
        else if m = .armRoll then (if active then .capturing else .armed)
        else .none
      exec .evidenceModeRequest s = .next (s.accepted
        { s with
          evidence :=
            { records := [], mode := m, phase := phase, watermark := taken, stopped := false,
              overrun := false } }
        .EM d [.num mode, .num taken])) ∧
  ∀ (s : State) (count : Option Nat) (d : Terminator), CanTake s (.er count) d →
    let e := s.evidence
    let size := match count with
      | none => 8
      | some k => max 1 (min k 8)
    let returned := e.records.take size
    let left := e.records.drop size
    let overrun := e.overrun && decide (e.records = [])
    exec .evidenceReadRequest s = .next (s.accepted
      { s with evidence := { e with records := left, overrun := overrun } } .ER d
      ([.num returned.length, .num left.length, .flag e.stopped, .flag (decide (e.phase = .frozen)),
        .flag overrun, .flag (decide (e.watermark < left.length))] ++
        returned.flatMap (fun r =>
          [.code r.code, .num r.strength.toNat,
            .letter (if r.antenna = .front then asc 'F' else asc 'B'), .num r.position, .num r.sweep,
            .loc r.target])))

/-- The eight ST commands: an id outside 01 to 08 is refused, a value is clamped to the nearer end of its
range, and the setting, no other, takes it (R59, R73, R89, R92, R162, R163, R175). That an ST of an id outside
01 to 08 is refused by whichever of the eight takes it is the model's choice (entry 10). -/
def Obligations.SettingsTakeClampedValues : Prop :=
  ∀ (s : State) (id v : Nat) (d : Terminator), CanTake s (.st id v) d →
    let t := s.link.settings
    let within := fun lo hi => max lo (min v hi)
    let taken := fun (x : Nat) (u : Settings) =>
      s.accepted { s with link := { s.link with settings := u } } .ST d [.num id, .num x]
    let refused := s.replied .ST .RG []
    (id = 1 → exec .stStrengthFloor s = .next (taken (within 0 254) { t with floor := within 0 254 })) ∧
    (id = 2 → exec .stBleedRatio s = .next (taken (within 1 64) { t with bleed := within 1 64 })) ∧
    (id = 3 → exec .stOrderTolerance s =
      .next (taken (within 10 200) { t with tolerance := within 10 200 })) ∧
    (id = 4 → exec .stIdleLimit s = .next (taken (within 5 120) { t with idleLimit := within 5 120 })) ∧
    (id = 5 → exec .stAttentionMode s = .next (taken (within 0 2) { t with attnMode := within 0 2 })) ∧
    (id = 6 → exec .stAttentionEnables s = .next (taken (within 0 3) { t with attnEnable := within 0 3 })) ∧
    (id = 7 → exec .stStreaming s = .next (taken (within 0 1) { t with streaming := within 0 1 })) ∧
    (id = 8 → exec .stReadoutSelection s = .next (taken (within 0 3) { t with readout := within 0 3 })) ∧
    (id = 0 ∨ 8 < id →
      exec .stStrengthFloor s = .next refused ∧ exec .stBleedRatio s = .next refused ∧
      exec .stOrderTolerance s = .next refused ∧ exec .stIdleLimit s = .next refused ∧
      exec .stAttentionMode s = .next refused ∧ exec .stAttentionEnables s = .next refused ∧
      exec .stStreaming s = .next refused ∧ exec .stReadoutSelection s = .next refused)

/-! ## FE and BA -/

/-- FE sets the allowance to the smaller of its count and the reports waiting and reserves the reply slot; with
no report waiting its reply is placed at once (R161). That a free transmitter begins FE's first report inside
this event is entry 8. -/
def Obligations.FetchReservesTheReplySlot : Prop :=
  ∀ (s : State) (count : Option Nat) (d : Terminator), CanTake s (.fe count) d →
    let size := match count with
      | none => 16
      | some k => max 1 (min k 16)
    let waiting := s.link.reports.length
    let reserved : State :=
      { s with
        link := { s.link with slot := none, allowance := min size waiting, reply := .reserved 0 d } }
    let nothing := { s with link := { s.link with allowance := 0 } }
    (d = .check → exec .fetchRequest s = .next (s.replied .FE .CK [])) ∧
    (d ≠ .check → 0 < waiting → exec .fetchRequest s = .next reserved.settled) ∧
    (d ≠ .check → waiting = 0 → exec .fetchRequest s = .next (s.accepted nothing .FE d [.num 0, .num 0]))

/-- BA completes at its taking when its condition holds, and else waits holding the slot; the completion of a
waiting barrier replies and frees the slot, and does not come while the condition fails (R160, R164; that it
is a step of its own is entry 4). While the barrier is due an event ends with the transmitter beginning nothing, so
that a free transmitter begins the barrier's reply first, before the refusals and the reports of the event that
made the condition true (R160, step 1, and R164 as read by entry 8). -/
def Obligations.BarriersWaitForTheirCondition : Prop :=
  (∀ (s : State) (h : Held), s.dueBarrier = some h ↔
    s.link.slot = some h ∧ (s.sweep.phase = .idle ∨ s.sweep.phase = .opened) ∧ s.table.run ≠ .closing ∧
      (s.link.barrier = some .engine ∨ (s.link.barrier = some .all ∧ s.link.reports = []))) ∧
  (∀ s : State,
    (∀ h, s.dueBarrier = some h → s.settled = s) ∧
    (s.dueBarrier = none → s.settled = { s with link := s.link.pump })) ∧
  (∀ (s : State) (h : Held), s.dueBarrier = some h → h.disp = .reply → s.link.sending = none →
    let fields :=
      if s.sweep.phase = .opened then [Field.num 1, .num s.sweep.record.number] else [.num 0, .absent]
    let reply : Reply := { word := [asc 'B', asc 'A'], code := .OK, fields := fields }
    exec .barrierCompletion s = .next
      { s with link :=
        { s.link with slot := none, barrier := none, reply := .empty, sending := some (.reply reply) } }) ∧
  ∀ (s : State) (scope : BarrierScope) (d : Terminator),
    let closing := s.sweep.phase = .finalize ∨ s.sweep.phase = .commit ∨ s.sweep.phase = .order ∨
      s.table.run = .closing
    let holds := ¬ closing ∧ (scope = .all → s.link.reports = [])
    let fields :=
      if s.sweep.phase = .opened then [Field.num 1, .num s.sweep.record.number] else [.num 0, .absent]
    (CanTake s (.ba scope) d →
      (d = .check ∨ holds → exec .barrierRequest s = .next (s.accepted s .BA d fields)) ∧
      (d ≠ .check → ¬ holds → exec .barrierRequest s =
        .next (State.settled { s with link := { s.link with barrier := some scope } }))) ∧
    (s.link.barrier = some scope → s.link.slot = some { req := .ba scope, disp := d } → d ≠ .check →
      (holds → exec .barrierCompletion s =
        .next (State.performed { s with link := { s.link with barrier := none } } .BA d fields)) ∧
      (¬ holds → exec .barrierCompletion s = .next s))

/-! ## The Read Port -/

/-- A read is dropped by the form check, discarded outside an open sweep, accepted with its stamp, copied and
counted, or dropped at the full queue (R49, R50, R51, R52, R53, R66, R72, R73, R144, R150). That it acts so
during the filing of an LI in OPEN too is entry 21. -/
def Obligations.TagReadArrives : Prop :=
  ∀ (s : State) (r : DeliveredRead), s.port.dormancy = .awake →
    let drops := if s.port.drops < 65535 then s.port.drops + 1 else 65535
    let record := s.sweep.record
    let sound := fun (code : ItemCode) (strength : BitVec 8) (antenna : Antenna) =>
      r.damaged = false ∧ r.code = some code ∧ code ≠ 0 ∧ r.strength = some strength ∧
      ((antenna = .front ∧ r.antenna = some .front) ∨ (antenna = .back ∧ r.antenna = some .back))
    (¬ (∃ code strength antenna, sound code strength antenna) → exec (.tagRead r) s =
      .next (State.settled { s with port := { s.port with drops := drops } })) ∧
    ∀ code strength antenna, sound code strength antenna →
      (s.sweep.phase ≠ .opened → exec (.tagRead r) s = .next s.settled) ∧
      ∀ target, s.sweep.phase = .opened → record.target = some target →
        let x : StampedRead :=
          { code := code, strength := strength, antenna := antenna, position := s.port.position,
            target := target, sweep := record.number }
        let accepted := if record.facts.accepted < 65535 then record.facts.accepted + 1 else 65535
        let dropped := if record.facts.dropped < 65535 then record.facts.dropped + 1 else 65535
        let e := s.evidence.capture x
        let evw : Report :=
          .evw e.records.length e.watermark e.mode e.stopped (decide (e.phase = .frozen)) e.overrun
        let rises := s.evidence.records.length ≤ s.evidence.watermark ∧ e.watermark < e.records.length
        (s.port.queue.length < 32 → exec (.tagRead r) s = .next (State.settled
          { s with
            port := { s.port with queue := s.port.queue ++ [x] }
            sweep :=
              { s.sweep with
                record := { record with facts := { record.facts with accepted := accepted } }
                idleTimer := some s.link.settings.idleLimit
                rateWindow := s.sweep.rateWindow.map (fun w => { w with count := w.count + 1 }) }
            evidence := e
            link := if rises then s.link.queueReport evw else s.link })) ∧
        (32 ≤ s.port.queue.length → exec (.tagRead r) s = .next (State.settled
          { s with
            port := { s.port with drops := drops }
            sweep :=
              { s.sweep with
                record := { record with facts := { record.facts with dropped := dropped } } } }))

/-- A count moves or clamps the counter of an open shelf sweep, restarts the idle timer, and closes a rate
window at its end; in an open loose sweep it is movement alone; otherwise it is ignored (R56, R57, R58, R72,
R73, R131). -/
def Obligations.EncoderCountMovesTheCounter : Prop :=
  ∀ (s : State) (dir : Direction),
    let timer := some s.link.settings.idleLimit
    let record := s.sweep.record
    (s.sweep.phase ≠ .opened → exec (.encoderCount dir) s = .next s) ∧
    (∀ i, s.sweep.phase = .opened → record.target = some (.loose i) → exec (.encoderCount dir) s =
      .next (State.settled { s with sweep := { s.sweep with idleTimer := timer } })) ∧
    ∀ t g, s.sweep.phase = .opened → record.target = some (.shelf t) → s.table.geometry = some g →
      let before := s.port.position
      let after :=
        if dir = .forward then (if before < g.width + 150 then before + 1 else g.width + 150)
        else before - 1
      let clamped := record.facts.overtravel || decide (dir = .forward ∧ g.width + 150 ≤ before)
      let moved : State :=
        { s with
          port := { s.port with position := after }
          sweep :=
            { s.sweep with
              idleTimer := timer
              record := { record with facts := { record.facts with overtravel := clamped } } } }
      (s.sweep.rateWindow = none → exec (.encoderCount dir) s = .next moved.settled) ∧
      ∀ w, s.sweep.rateWindow = some w →
        (after ≠ w.start + 100 → exec (.encoderCount dir) s = .next moved.settled) ∧
        (after = w.start + 100 →
          let next : State :=
            { moved with
              sweep := { moved.sweep with rateWindow := some { start := w.start + 100, count := 0 } } }
          exec (.encoderCount dir) s = .next
            (next.evaluate .rate (.shelf t) record.number [(.rateLo, w.count)]).settled)

/-! ## The wand panel -/

/-- A press of the trigger wakes a dormant controller and then, by the switch and the Sweep Unit, opens a sweep
on the cursor shelf, ends the sweep, or draws two short beeps (R62, R68, R75, R173). That it acts so during the
filing of an LI in OPEN too is entry 21. -/
def Obligations.TriggerPressActs : Prop :=
  ∀ s : State,
    let w : State :=
      if s.port.dormancy = .dormant then
        { s with port := { s.port with dormancy := .awake }, link := s.link.queueReport (.wak .trigger) }
      else s
    let cursor := s.table.cursor
    let ready := s.table.run = .opened ∧ 1 ≤ cursor ∧ cursor ≤ s.table.shelfCount
    let mode := if s.table.sweepCount cursor = 0 then SweepMode.new else SweepMode.recount
    let beeps : State := { w with panel := s.panel.buzz .twoShort }
    let ended : State :=
      { w with
        sweep :=
          { s.sweep with
            phase := .finalize, idleTimer := none, rateWindow := none
            record := { s.sweep.record with bleed := some s.link.settings.bleed } } }
    (s.panel.switch = .localMode → s.sweep.phase = .idle → ready →
      exec .triggerPress s = .next (w.openSweep (.shelf cursor) mode).settled) ∧
    (s.panel.switch = .localMode → s.sweep.phase = .idle → ¬ ready →
      exec .triggerPress s = .next beeps.settled) ∧
    (s.panel.switch = .localMode → s.sweep.phase = .opened →
      exec .triggerPress s = .next ended.settled) ∧
    (s.panel.switch = .localMode → s.sweep.phase ≠ .idle → s.sweep.phase ≠ .opened →
      exec .triggerPress s = .next beeps.settled) ∧
    (s.panel.switch = .remote → exec .triggerPress s = .next beeps.settled)

/-- CALL, the mode switch and the buzzer: a press wakes a dormant controller and queues CAL unless one is
pending; a change sets the switch state alone; a pattern's end begins the oldest waiting; and a pattern
requested sounds, waits, or at four waiting is not sounded (R62, R159, R172, R174, R176). -/
def Obligations.CallSwitchAndBuzzer : Prop :=
  (∀ s : State,
    let w : State :=
      if s.port.dormancy = .dormant then
        { s with port := { s.port with dormancy := .awake }, link := s.link.queueReport (.wak .call) }
      else s
    (s.link.callPending = true → exec .callPress s = .next w.settled) ∧
    (s.link.callPending = false → exec .callPress s =
      .next (State.settled { w with link := w.link.queueReport .cal }))) ∧
  (∀ (s : State) (p : SwitchPosition), exec (.modeSwitchChange p) s =
    .next (State.settled { s with panel := { s.panel with switch := p } })) ∧
  (∀ (s : State) (x : Pattern), s.panel.sounding = some x →
    (s.panel.waiting = [] → exec .buzzerPatternEnd s =
      .next (State.settled { s with panel := { s.panel with sounding := none } })) ∧
    ∀ y rest, s.panel.waiting = y :: rest → exec .buzzerPatternEnd s =
      .next (State.settled { s with panel := { s.panel with sounding := some y, waiting := rest } })) ∧
  ∀ (p : Panel) (x : Pattern),
    (p.sounding = none → p.buzz x = { p with sounding := some x }) ∧
    (p.sounding ≠ none → p.waiting.length < 4 → p.buzz x = { p with waiting := p.waiting ++ [x] }) ∧
    (p.sounding ≠ none → 4 ≤ p.waiting.length → p.buzz x = p)

/-- The attention lines, the readout, the lamps and the receiver's power: the green lamp is lit while the Sweep
Unit is OPEN or CLOSING, the red one while the anomaly is active, and the receiver is powered while AWAKE (R61,
R62, R162, R175, R176). -/
def Obligations.AttentionAndReadout : Prop :=
  (∀ l : LinkUnit,
    let reports := (l.settings.attnEnable = 1 ∨ l.settings.attnEnable = 3) ∧ l.reports ≠ []
    let ready := (l.settings.attnEnable = 2 ∨ l.settings.attnEnable = 3) ∧ l.slot = none
    (l.settings.attnMode = 0 → l.attnA = false ∧ l.attnB = false) ∧
    (l.settings.attnMode = 1 → (l.attnA = true ↔ reports ∨ ready) ∧ l.attnB = false) ∧
    (l.settings.attnMode = 2 → (l.attnA = true ↔ reports) ∧ (l.attnB = true ↔ ready))) ∧
  (∀ s : State,
    (s.greenLamp = true ↔ s.sweep.phase = .opened ∨ s.sweep.phase = .finalize ∨ s.sweep.phase = .commit ∨
      s.sweep.phase = .order) ∧
    (s.redLamp = true ↔ s.monitor.active = true) ∧
    (s.port.receiverPowered = true ↔ s.port.dormancy = .awake)) ∧
  ∀ s : State,
    let digit := fun n => BitVec.ofNat 8 (48 + n % 10)
    let shown := fun n => [
      if n < 1000 then asc ' ' else digit (n / 1000), if n < 100 then asc ' ' else digit (n / 100),
      if n < 10 then asc ' ' else digit (n / 10), digit n]
    let dashes := [asc '-', asc '-', asc '-', asc '-']
    let unswept := ((List.range s.table.shelfCount).filter
      (fun t => s.table.sweepCount (t + 1) = 0)).length
    (s.link.settings.readout = 0 → s.table.cursor = 0 → s.readout = dashes) ∧
    (s.link.settings.readout = 0 → s.table.cursor ≠ 0 → s.table.cursor < 10000 →
      s.readout = shown s.table.cursor) ∧
    (s.link.settings.readout = 1 → s.sweep.sightings.length < 10000 →
      s.readout = shown s.sweep.sightings.length) ∧
    (s.link.settings.readout = 2 → s.sweep.lastShelf = none → s.readout = dashes) ∧
    (∀ t, s.link.settings.readout = 2 → s.sweep.lastShelf = some t →
      s.table.missingCount (.shelf t) < 10000 → s.readout = shown (s.table.missingCount (.shelf t))) ∧
    (s.link.settings.readout = 3 → s.table.run = .empty → s.readout = dashes) ∧
    (s.link.settings.readout = 3 → s.table.run ≠ .empty → unswept < 10000 → s.readout = shown unswept)

/-! ## Folding and the hand-off -/

/-- A fold removes the head of the read queue, weighs it under the floor in force, and folds it into the
sighting of its code, into a new sighting whose entry is marked, or, at the full table, drops and counts it
(R54, R60, R66, R70, R71, R77, R88). -/
def Obligations.ReadFoldTakesTheHead : Prop :=
  ∀ (s : State) (r : StampedRead) (rest : List StampedRead), s.port.queue = r :: rest →
    s.sweep.phase = .opened ∨ s.sweep.phase = .finalize →
    let strength := r.strength.toNat
    let floor := s.link.settings.floor
    let weight := if floor < strength then strength - floor else 0
    let a := additionsOf r.antenna weight r.position
    let record := s.sweep.record
    let table := s.sweep.sightings
    let noted := fun (xs : List Sighting) =>
      { record with
        facts :=
          { record.facts with frozen := record.facts.frozen || xs.any (fun x => x.frozen) } }
    let kind := match s.table.byCode r.code with
      | some e => SightingKind.listed e.rank
      | none => .foreign
    let fresh : Sighting :=
      { code := r.code, kind := kind, reads := 0, moment := 0, front := 0, back := 0, scale := 0,
        frozen := false }
    let port := { s.port with queue := rest }
    let into := table.map (fun x => if x.code = r.code then x.fold a else x)
    let grown := table ++ [fresh.fold a]
    let marked :=
      s.table.entries.map (fun e => if e.code = r.code then { e with inSweep := true } else e)
    let dropped := if record.facts.dropped < 65535 then record.facts.dropped + 1 else 65535
    ((∃ x ∈ table, x.code = r.code) → exec .readFold s = .next (State.settled
      { s with port := port, sweep := { s.sweep with sightings := into, record := noted into } })) ∧
    ((∀ x ∈ table, x.code ≠ r.code) → table.length < 192 → exec .readFold s = .next (State.settled
      { s with
        port := port
        sweep := { s.sweep with sightings := grown, record := noted grown }
        table := { s.table with entries := marked } })) ∧
    ((∀ x ∈ table, x.code ≠ r.code) → 192 ≤ table.length → exec .readFold s = .next (State.settled
      { s with
        port := port
        sweep :=
          { s.sweep with
            record :=
              { record with facts := { record.facts with dropped := dropped, partialMark := true } } } }))

/-- FINALIZE with an empty queue makes the across-aisle test with the captured ratio, evaluates BLEED_HI, and
hands to COMMIT one offer for each sighting that is not across-aisle, in first-read order (R77, R78, R89, R90,
R91). -/
def Obligations.HandOffDeliversTheOffers : Prop :=
  ∀ (s : State) (target : Loc) (mode : SweepMode) (bleed pMax : Nat), s.sweep.phase = .finalize →
    s.port.queue = [] → s.sweep.record.target = some target → s.sweep.record.mode = some mode →
    s.sweep.record.bleed = some bleed → s.table.pMax = some pMax →
    let record := s.sweep.record
    let table := s.sweep.sightings
    let kept := table.filter (fun x => decide (8 * x.back ≤ bleed * x.front))
    let across := table.length - kept.length
    let facts := { record.facts with acrossAisle := across }
    let offer := fun x : Sighting =>
      let positioned := target.isShelf = true ∧ 1 ≤ x.front
      let estimate := (x.moment + x.front / 2) / x.front
      ({ code := x.code, kind := x.kind, reads := x.reads
         position := if positioned then some (if pMax < estimate then pMax else estimate) else none
         strength := if positioned then x.front * 2 ^ x.scale else 0 } : Offer)
    let ranks := table.filterMap (fun x => match x.kind with
      | .listed r => some r
      | .foreign => none)
    let commit : Commit :=
      { number := record.number, target := target, mode := mode, offers := kept.map offer,
        ranks := ranks, facts := facts }
    let handed : State :=
      { s with
        sweep :=
          { s.sweep with
            phase := .commit, inFlight := some commit
            record := { record with facts := facts, sighted := table.length } } }
    exec .handOff s = .next (handed.evaluate .bleed target record.number [(.bleedHi, across)]).settled

/-! ## The commit -/

/-- The commit event at the Sweep Unit, the target record, the cursor and the Order Unit: the last commit is
set, the record updated, the cursor moved after a shelf commit, the WSN reports queued, and the first shelf
job begun, or ORDER completed when no shelf is affected. The job list holds the affected shelves in ascending
order: the target where an offer is placed or a placement vacated, and every shelf a placement left, those of
foreign entries among them (R13, R66, R78, R79, R99, R101, R107, R108). -/
def Obligations.CommitIsOneEvent : Prop :=
  ∀ (s : State) (c : Commit), s.Capacities → s.Controlled → s.ListSound → s.LocationsSound →
    s.sweep.phase = .commit → s.sweep.inFlight = some c →
    ∃ t : State, exec .commit s = .next t ∧
      (t.sweep.sightings = [] ∧ t.sweep.inFlight = none ∧
        t.sweep.lastCommit = some { number := c.number, target := c.target } ∧
        t.sweep.lastShelf = (match c.target with
          | .shelf u => some u
          | .loose _ => s.sweep.lastShelf) ∧
        t.sweep.record = { s.sweep.record with outcomes := t.sweep.record.outcomes } ∧
        t.sweep.idleTimer = s.sweep.idleTimer ∧ t.sweep.rateWindow = s.sweep.rateWindow) ∧
      (t.table.recordAt c.target =
          { state := .swept, lastSweep := c.number, facts := c.facts
            sweepCount :=
              if (s.table.recordAt c.target).sweepCount < 255 then
                (s.table.recordAt c.target).sweepCount + 1
              else 255 } ∧
        ∀ l, l ≠ c.target → t.table.recordAt l = s.table.recordAt l) ∧
      (t.table.run = s.table.run ∧ t.table.geometry = s.table.geometry ∧ t.table.load = s.table.load ∧
        t.table.sweepNumber = s.table.sweepNumber) ∧
      (∀ i, c.target = .loose i → t.table.cursor = s.table.cursor) ∧
      (∀ u, c.target = .shelf u →
        let unswept := fun v => 1 ≤ v ∧ v ≤ t.table.shelfCount ∧ t.table.sweepCount v = 0
        (∀ v, unswept v → u < v → (∀ x, u < x → x < v → ¬ unswept x) → t.table.cursor = v) ∧
        ((∀ v, u < v → ¬ unswept v) → ∀ v, unswept v → (∀ x, x < v → ¬ unswept x) →
          t.table.cursor = v) ∧
        ((∀ v, ¬ unswept v) → t.table.cursor = 0)) ∧
      (t.pending = s.pending ∧ t.port = s.port ∧ t.link.settings = s.link.settings ∧
        t.link.slot = s.link.slot ∧ t.link.parser = s.link.parser ∧ t.link.buffer = s.link.buffer) ∧
      (t.order.jobs.Pairwise (· < ·) ∧
        (∀ u ∈ t.order.jobs, .shelf u = c.target ∨
          ∃ p, s.table.HoldsPlacement p ∧ p.loc = .shelf u) ∧
        ∀ (i : Nat) (e e' : Entry), s.table.entries[i]? = some e → t.table.entries[i]? = some e' →
          e.placement ≠ e'.placement →
          ∀ p u, e.placement = some p ∨ e'.placement = some p → p.loc = .shelf u →
            u ∈ t.order.jobs) ∧
      (s.SightingsSound → ∀ u, u ∈ t.order.jobs ↔
        (∃ o ∈ c.offers, s.table.places c o = true ∧
          (c.target = .shelf u ∨ ∃ p, s.table.meets c o = some p ∧ p.loc = .shelf u)) ∨
        (c.mode = .recount ∧ c.target = .shelf u ∧
          ∃ p, s.table.HoldsPlacement p ∧ p.loc = c.target)) ∧
      (t.order.jobs = [] → t.sweep.phase = .idle ∧ t.order.current = .idle) ∧
      ∀ u rest, t.order.jobs = u :: rest →
        t.sweep.phase = .order ∧ t.order.current = .shelf u ∧
        t.order.tolerance = some s.link.settings.tolerance ∧
        t.order.piles = walk (shelfSequence t.table.entries s.link.settings.tolerance u) ∧
        t.monitor = s.monitor ∧ t.evidence = s.evidence ∧ t.panel = s.panel

/-- What a commit does to each expected entry: the recount vacate, its own offer under the strength rule, the
standing, and the three marks (R94, R95, R96, R99, R100, R126, R127). -/
def Obligations.CommitOnAnExpectedEntry : Prop :=
  ∀ (s t : State) (c : Commit), s.Capacities → s.Controlled → s.ListSound → s.LocationsSound →
    s.sweep.phase = .commit → s.sweep.inFlight = some c → exec .commit s = .next t →
    t.table.entries.length = s.table.entries.length ∧
    ∀ (i : Nat) (e e' : Entry), s.table.entries[i]? = some e → t.table.entries[i]? = some e' →
      let own := c.offers.filter (fun o => decide (o.kind = .listed e.rank))
      let vacated := c.mode = .recount ∧ ∃ p, e.placement = some p ∧ p.loc = c.target
      let held := if vacated then none else e.placement
      let weighed := fun p : Placement => ∃ a b, c.target = .shelf a ∧ p.loc = .shelf b ∧
        (a = b ∨ ∃ g, s.table.geometry = some g ∧ g.neighbours a b = true)
      let wins := fun (o : Offer) => ∀ p, held = some p → weighed p → p.strength < o.strength
      let placed := ∃ o, own = [o] ∧ wins o
      let awaiting := ∃ p u, e'.placement = some p ∧ p.loc = .shelf u ∧ p.position ≠ none ∧
        u ∈ t.order.jobs
      (e' = { e with
        placement := e'.placement, shelfStanding := e'.shelfStanding, inSweep := e'.inSweep
        lentSince := e'.lentSince, returned := e'.returned }) ∧
      (own = [] → e'.placement = held) ∧
      (∀ o, own = [o] → wins o → e'.placement = some
        { loc := c.target, position := o.position, strength := o.strength, reads := o.reads,
          sweep := c.number }) ∧
      (∀ o, own = [o] → ¬ wins o → e'.placement = held) ∧
      e'.inSweep = (e.inSweep && decide (e.rank ∉ c.ranks)) ∧
      (own.length ≤ 1 →
        (vacated → e'.lentSince = false) ∧ (¬ vacated → e'.lentSince = e.lentSince) ∧
        (placed → e'.returned = .clear) ∧
        (¬ placed → held = none → c.target = .shelf e.shelf →
          e'.returned = if e.returned = .setDuring then .set else .clear) ∧
        (¬ placed → held ≠ none ∨ c.target ≠ .shelf e.shelf → e'.returned = e.returned) ∧
        (awaiting → e'.shelfStanding = .pending) ∧
        (¬ awaiting → (vacated ∨ placed) → e'.shelfStanding = .none) ∧
        (¬ awaiting → ¬ vacated → ¬ placed → e'.shelfStanding = e.shelfStanding))

/-- The outcome counts of a commit: offers placed on an item without a placement, in replacement of one, kept
elsewhere, and lost at the full foreign list. The WSN reports it queues in the order of its offers: one for each
watched entry that receives a placement, with the location it had before. With no affected shelf ORDER completes
in the same event: the shelf conditions are evaluated for a shelf target and SWD is queued behind (R43, R44,
R78, R79, R80, R101). -/
def Obligations.CommitCountsAndReports : Prop :=
  ∀ (s t : State) (c : Commit), s.Controlled → s.ListSound → s.SightingsSound → s.sweep.phase = .commit →
    s.sweep.inFlight = some c → exec .commit s = .next t →
    let o := t.sweep.record.outcomes
    o.newPlacements + o.movedIn + o.keptElsewhere + o.foreignDropped = c.offers.length ∧
    o.newPlacements =
      c.offers.countP (fun x => s.table.places c x && decide (s.table.meets c x = none)) ∧
    o.movedIn = c.offers.countP (fun x => s.table.places c x && decide (s.table.meets c x ≠ none)) ∧
    o.keptElsewhere = c.offers.countP (s.table.keeps c) ∧
    o.foreignDropped = (s.table.newcomers c).length - (s.table.admitted c).length ∧
    o.foreign = c.offers.countP (fun x => decide (x.kind = .foreign)) ∧
    o.heard = (if c.target.isShelf = true then c.offers.countP (fun x => decide (x.position = none)) else 0) ∧
    (let placed := fun (x : Offer) (e : Entry) =>
        ∀ p, e.placement = some p → ¬ (c.mode = .recount ∧ p.loc = c.target) →
          (∃ a b, c.target = .shelf a ∧ p.loc = .shelf b ∧
            (a = b ∨ ∃ g, s.table.geometry = some g ∧ g.neighbours a b = true)) →
          p.strength < x.strength
      ∃ wsns : List (Option Report),
        List.Forall₂ (fun x w =>
          match x.kind with
          | .foreign => w = none
          | .listed r => ∀ e, s.table.byRank r = some e →
            (e.watch = true ∧ placed x e → w = some
              (.wsn c.number r e.code c.target x.position (e.placement.map (fun p => p.loc)))) ∧
            (¬ (e.watch = true ∧ placed x e) → w = none)) c.offers wsns ∧
        let told := (wsns.filterMap id).foldl (fun l w => l.queueReport w) s.link
        let before : State :=
          { s with link := told, sweep := t.sweep, table := t.table, order := OrderUnit.cleared }
        let swd := Report.swd t.sweep.record
        (t.order.jobs ≠ [] → t.link = told.pump) ∧
        (t.order.jobs = [] →
          (∀ u, c.target = .shelf u →
            let x := before.evaluate .shelf (.shelf u) c.number
              [(.missingHi, t.table.missingCount (.shelf u)),
                (.misorderHi, t.table.misorderedCount (.shelf u)),
                (.foreignHi, t.table.foreignCount (.shelf u)),
                (.fillLo, t.table.positionedCount (.shelf u))]
            t = State.settled { x with link := x.link.queueReport swd }) ∧
          ∀ i, c.target = .loose i → t = State.settled { before with link := told.queueReport swd }))

/-- A foreign offer finds its foreign entry, is added at the end of the list, or is dropped at the full list;
a recount vacates every placement on its target; and after the commit event the foreign list holds the entries
that stand, each sighted once more and placed anew where an offer of its code says so, with the newcomers that
found room behind them, and the overflow count the rest (R94, R97, R98, R101). -/
def Obligations.ForeignOffersAndTheVacate : Prop :=
  (∀ (g : Option Geometry) (c : Commit) (before : List Entry) (w : CommitWork) (o : Offer),
    o.kind = .foreign →
    let made : Placement :=
      { loc := c.target, position := o.position, strength := o.strength, reads := o.reads,
        sweep := c.number }
    let heard := if c.target.isShelf = true ∧ o.position = none then 1 else 0
    let n := w.outcomes
    let counted := { n with foreign := n.foreign + 1, heard := n.heard + heard }
    let y := w.applyOffer g c before o
    (∀ f, w.foreign.find? (fun x => x.code == o.code) = some f →
      let weighed := ∃ a b, c.target = .shelf a ∧ f.placement.loc = .shelf b ∧
        (a = b ∨ ∃ k, g = some k ∧ k.neighbours a b = true)
      let times := fun x : ForeignEntry => if x.sighted < 255 then x.sighted + 1 else 255
      (weighed → o.strength ≤ f.placement.strength → y =
        { w with
          foreign := w.foreign.map (fun x => if x.code = o.code then
            { x with placement := f.placement, sighted := times x } else x)
          outcomes := { counted with keptElsewhere := n.keptElsewhere + 1 } }) ∧
      (weighed → f.placement.strength < o.strength → y =
        { w with
          foreign := w.foreign.map (fun x => if x.code = o.code then
            { x with placement := made, sighted := times x } else x)
          affected := c.target :: f.placement.loc :: w.affected
          outcomes := { counted with movedIn := n.movedIn + 1 } }) ∧
      (¬ weighed → y =
        { w with
          foreign := w.foreign.map (fun x => if x.code = o.code then
            { x with placement := made, sighted := times x } else x)
          affected := c.target :: f.placement.loc :: w.affected
          outcomes := { counted with movedIn := n.movedIn + 1 } })) ∧
    ((∀ f ∈ w.foreign, f.code ≠ o.code) → w.foreign.length < 256 → y =
      { w with
        foreign := w.foreign ++ [{ code := o.code, placement := made, sighted := 1 }]
        affected := c.target :: w.affected
        outcomes := { counted with newPlacements := n.newPlacements + 1 } }) ∧
    ((∀ f ∈ w.foreign, f.code ≠ o.code) → 256 ≤ w.foreign.length → y =
      { w with
        overflow := if w.overflow < 255 then w.overflow + 1 else 255
        outcomes := { counted with foreignDropped := n.foreignDropped + 1 } })) ∧
  (∀ (l : Loc) (w : CommitWork),
    let onIt := fun p : Option Placement => ∃ q, p = some q ∧ q.loc = l
    let y := w.vacate l
    y.foreign = w.foreign.filter (fun f => decide (f.placement.loc ≠ l)) ∧
    y.entries = w.entries.map (fun e => if e.placement.any (fun q => decide (q.loc = l)) = true then
      { e with placement := none, shelfStanding := .none, lentSince := false } else e) ∧
    (∀ x, x ∈ y.affected ↔ x ∈ w.affected ∨
      (x = l ∧ ((∃ e ∈ w.entries, onIt e.placement) ∨ ∃ f ∈ w.foreign, f.placement.loc = l))) ∧
    y.overflow = w.overflow ∧ y.wsns = w.wsns ∧ y.outcomes = w.outcomes) ∧
  ∀ (s t : State) (c : Commit), s.Capacities → s.Controlled → s.ListSound → s.SightingsSound →
    s.sweep.phase = .commit → s.sweep.inFlight = some c → exec .commit s = .next t →
    let made : Offer → Placement := fun o =>
      { loc := c.target, position := o.position, strength := o.strength, reads := o.reads,
        sweep := c.number }
    let sighted := fun f : ForeignEntry =>
      match c.offers.find? (fun o => decide (o.kind = .foreign) && decide (o.code = f.code)) with
      | none => f
      | some o =>
        { f with
          sighted := if f.sighted < 255 then f.sighted + 1 else 255
          placement := if s.table.keeps c o = true then f.placement else made o }
    t.table.foreign = (s.table.foreignLeft c).map sighted ++
      (s.table.admitted c).map (fun o => { code := o.code, placement := made o, sighted := 1 }) ∧
    t.table.overflow =
      min 255 (s.table.overflow + ((s.table.newcomers c).length - (s.table.admitted c).length))

/-! ## Order jobs -/

/-- A shelf job writes the standings of its sequence and begins the next, or completes ORDER: the shelf
conditions are evaluated for a shelf target, SWD is queued and the Sweep Unit becomes IDLE. The run-wide job
writes the run standings, closes the run and queues RND (R5, R79, R80, R108, R109, R112, R131, R133). That the
job tolerance is none after the last job of either kind, and the piles empty after the last shelf job, is
entry 15. -/
def Obligations.OrderJobsComplete : Prop :=
  (∀ (s : State) (sequence : List Nat) (u : Nat) (rest : List Nat), s.order.current = .shelf u →
    s.order.jobs = u :: rest → s.order.piles = walk sequence →
    let c := s.table
    let found := (walk sequence).inOrder
    let tolerance := s.link.settings.tolerance
    let entries := c.entries.map (fun e =>
      if e.rank ∈ sequence then
        { e with shelfStanding := if e.rank ∈ found then .inOrder else .out }
      else e)
    let written : State := { s with table := { c with entries := entries } }
    (∀ v more, rest = v :: more → exec .shelfJobCompletion s = .next (State.settled
      { written with
        order :=
          { jobs := rest, current := .shelf v, tolerance := some tolerance,
            piles := walk (shelfSequence entries tolerance v) } })) ∧
    (rest = [] →
      let done : State := { written with order := OrderUnit.cleared }
      let swd := Report.swd s.sweep.record
      (∀ v, s.sweep.record.target = some (.shelf v) →
        let x := done.evaluate .shelf (.shelf v) s.sweep.record.number
          [(.missingHi, done.table.missingCount (.shelf v)),
            (.misorderHi, done.table.misorderedCount (.shelf v)),
            (.foreignHi, done.table.foreignCount (.shelf v)),
            (.fillLo, done.table.positionedCount (.shelf v))]
        exec .shelfJobCompletion s = .next (State.settled
          { x with sweep := { s.sweep with phase := .idle }, link := x.link.queueReport swd })) ∧
      (∀ i, s.sweep.record.target = some (.loose i) → exec .shelfJobCompletion s = .next (State.settled
        { done with sweep := { s.sweep with phase := .idle }, link := s.link.queueReport swd })))) ∧
  ∀ (s : State) (sequence : List Nat), s.order.current = .run → s.order.piles = walk sequence →
    let c := s.table
    let found := (walk sequence).inOrder
    let entries := c.entries.map (fun e =>
      { e with
        runStanding :=
          if e.rank ∈ found then .inOrder else if e.rank ∈ sequence then .out else .none })
    let closed : CountTable := { c with run := .closed, entries := entries }
    ∀ n, c.items = some n → sequence.Nodup → exec .runWideJobCompletion s = .next (State.settled
      { s with
        table := closed
        order := { jobs := [], current := .idle, tolerance := none, piles := { row := [], preds := [] } }
        link := s.link.queueReport (.rnd n (Verdict.all.map closed.total)) })

/-! ## Numbers and records on the link -/

/-- The controller writes a number in capital hexadecimal digits without leading zeros, and zero as 0; a
request's digits, in either case and with leading zeros, are read back as the number they write (R154). A reply
and a report are written with their word, status code and fields, each report with the fields of R159 in its
order, and states, modes and the condition set as their codes (R85, R130, R154, R158, R159, R167). The letters, the
digits and their values are those of ASCII, in either case (R154, R155). -/
def Obligations.HexadecimalRoundTrip : Prop :=
  (let text := fun (cs : List Char) => cs.map asc
   let fieldText := fun f : Field => match f with
     | .num n => hexText n
     | .letter c => [c]
     | .absent => []
     | .guarded => text ['F', 'F', 'F', 'F', 'F', 'F', 'G']
   let fieldsText := fun fs : List Field => (fs.map (fun f => asc ',' :: fieldText f)).flatten
   (∀ r : Reply, Outbound.text (.reply r) =
     [asc '*'] ++ r.word ++ [asc ','] ++ r.code.text ++ fieldsText r.fields ++ [13, 10]) ∧
   (∀ r : Report, Outbound.text (.report r) = [asc '!'] ++ r.word ++ fieldsText r.fields ++ [13, 10]) ∧
   ([.OK, .CK, .FM, .UK, .RG, .SA, .BY, .LC, .SQ, .DP, .OR, .NF, .US, .OV] : List StatusCode).map
       StatusCode.text =
     [text ['O', 'K'], text ['C', 'K'], text ['F', 'M'], text ['U', 'K'], text ['R', 'G'], text ['S', 'A'],
       text ['B', 'Y'], text ['L', 'C'], text ['S', 'Q'], text ['D', 'P'], text ['O', 'R'], text ['N', 'F'],
       text ['U', 'S'], text ['O', 'V']]) ∧
  (let loc := fun l : Loc => match l with
     | .shelf t => Field.num t
     | .loose i => .num (128 + i)
   let locOf := fun l : Option Loc => match l with
     | some l => loc l
     | none => Field.absent
   let value := fun x : Option Nat => match x with
     | some n => Field.num n
     | none => .absent
   let flag := fun b : Bool => if b then Field.num 1 else .num 0
   let writes := fun (r : Report) (word : List Char) (fields : List Field) =>
     r.word = word.map asc ∧ r.fields = fields
   (∀ r : OpenRecord, writes (.swd r) ['S', 'W', 'D']
     [.num r.number, locOf r.target, .num r.sighted, .num r.outcomes.newPlacements, .num r.outcomes.movedIn,
       .num r.outcomes.keptElsewhere, .num r.outcomes.foreign, .num r.outcomes.foreignDropped,
       .num r.facts.acrossAisle, .num r.outcomes.heard, .num r.facts.accepted, .num r.facts.dropped,
       flag r.facts.partialMark, flag r.facts.overtravel, flag r.facts.frozen]) ∧
   (∀ n l a d,
     writes (.swa n l .host .opened a d) ['S', 'W', 'A']
       [.num n, locOf l, .letter (asc 'H'), .num 1, .num a, .num d] ∧
     writes (.swa n l .idle .opened a d) ['S', 'W', 'A']
       [.num n, locOf l, .letter (asc 'I'), .num 1, .num a, .num d] ∧
     writes (.swa n l .host .finalize a d) ['S', 'W', 'A']
       [.num n, locOf l, .letter (asc 'H'), .num 2, .num a, .num d]) ∧
   (∀ n totals, writes (.rnd n totals) ['R', 'N', 'D'] (.num n :: totals.map Field.num)) ∧
   (∀ r : SourceRecord, writes (.anm r) ['A', 'N', 'M']
     [.letter (if r.kind = .rate then asc 'R' else if r.kind = .bleed then asc 'B' else asc 'S'),
       .num (r.conditions.map (fun x => if x = .missingHi then 1 else if x = .misorderHi then 2
         else if x = .foreignHi then 4 else if x = .fillLo then 8 else if x = .rateLo then 16 else 32)).sum,
       loc r.loc, .num r.sweep]) ∧
   (∀ n w m a b c, writes (.evw n w m a b c) ['E', 'V', 'W']
     [.num n, .num w, .num (if m = .off then 0 else if m = .fill then 1 else if m = .roll then 2
       else if m = .rollFreeze then 3 else 4), flag a, flag b, flag c]) ∧
   writes .cal ['C', 'A', 'L'] [] ∧
   (writes (.wak .trigger) ['W', 'A', 'K'] [.letter (asc 'T')] ∧
     writes (.wak .call) ['W', 'A', 'K'] [.letter (asc 'C')] ∧
     writes (.wak .record) ['W', 'A', 'K'] [.letter (asc 'R')]) ∧
   (∀ n r (code : ItemCode) l x p, writes (.wsn n r code l x p) ['W', 'S', 'N']
     [.num n, .num r, .num code.toNat, loc l, value x, locOf p])) ∧
  (([.empty, .loading, .opened, .closing, .closed] : List RunState).map RunState.code = [0, 1, 2, 3, 4] ∧
    ([.idle, .opened, .finalize, .commit, .order] : List SweepPhase).map SweepPhase.code =
      [0, 1, 2, 3, 4] ∧
    ([.unswept, .sweeping, .swept] : List LocState).map LocState.code = [0, 1, 2] ∧
    ([.none, .pending, .inOrder, .out] : List Standing).map Standing.code = [0, 1, 2, 3] ∧
    ([.clear, .set, .setDuring] : List Returned).map Returned.code = [0, 1, 2] ∧
    ([.available, .onLoan, .inTransit, .declaredMissing] : List CircStatus).map CircStatus.code =
      [0, 1, 2, 3] ∧
    ([.none, .rolling, .freezing, .frozen, .armed, .capturing] : List EvidencePhase).map
      EvidencePhase.code = [0, 1, 2, 3, 4, 5] ∧
    ([.inPlace, .shifted, .misordered, .pending, .heard, .loose, .awaitingShelving, .accounted, .missing,
      .stillMissing, .notCounted] : List Verdict).map Verdict.code = [0, 1, 2, 3, 4, 5, 6, 7, 8, 9, 10] ∧
    ([.off, .fill, .roll, .rollFreeze, .armRoll] : List EvidenceMode).map EvidenceMode.code =
      [0, 1, 2, 3, 4] ∧
    ([.missingHi, .misorderHi, .foreignHi, .fillLo, .rateLo, .bleedHi] : List CondCode).map CondCode.code =
      [1, 2, 3, 4, 5, 6] ∧
    (∀ n x, statusOfCode n = some x ↔ CircStatus.code x = n) ∧
    Verdict.all.map Verdict.code = List.range 11) ∧
  ((∀ b, Field.flag b = .num (if b then 1 else 0)) ∧
    (∀ t, Field.loc (.shelf t) = .num t) ∧ (∀ i, Field.loc (.loose i) = .num (128 + i)) ∧
    Field.locOpt none = .absent ∧ (∀ l, Field.locOpt (some l) = Field.loc l) ∧
    Field.opt none = .absent ∧ (∀ n, Field.opt (some n) = .num n) ∧
    ∀ x : ItemCode, Field.code x = .num x.toNat) ∧
  ((List.range 16).map hexText =
      [[48], [49], [50], [51], [52], [53], [54], [55], [56], [57], [65], [66], [67], [68], [69], [70]] ∧
    (['0', '9', 'A', 'F', 'G', 'Z', 'a', 'z', ',', ' ', '-', '*', '!', '?', ';', '='].map asc =
      [48, 57, 65, 70, 71, 90, 97, 122, 44, 32, 45, 42, 33, 63, 59, 61]) ∧
    [Terminator.perform, .reply, .check].map terminatorChar = [59, 63, 61] ∧
    ∀ c : Byte,
      let n := c.toNat
      (isDigit c = true ↔ 48 ≤ n ∧ n ≤ 57) ∧
      (isLetter c = true ↔ (65 ≤ n ∧ n ≤ 90) ∨ (97 ≤ n ∧ n ≤ 122)) ∧
      (upper c).toNat = (if 97 ≤ n ∧ n ≤ 122 then n - 32 else n) ∧
      hexValue c =
        if 48 ≤ n ∧ n ≤ 57 then some (n - 48)
        else if 65 ≤ n ∧ n ≤ 70 then some (n - 55)
        else if 97 ≤ n ∧ n ≤ 102 then some (n - 87)
        else none) ∧
  (∀ n : Nat, readHexFrom 0 (hexText n) = some n) ∧
  hexText 0 = [asc '0'] ∧
  (∀ n : Nat, n ≠ 0 → ∃ c cs, hexText n = c :: cs ∧ c ≠ asc '0') ∧
  (∀ (n : Nat), ∀ c ∈ hexText n, (48 ≤ c.toNat ∧ c.toNat ≤ 57) ∨ (65 ≤ c.toNat ∧ c.toNat ≤ 70)) ∧
  (∀ (n k : Nat), readHexFrom 0 (List.replicate k (asc '0') ++ hexText n) = some n) ∧
  (∀ (cs : List Byte), readHexFrom 0 (cs.map upper) = readHexFrom 0 cs) ∧
  ∀ (n k : Nat), n < 16 ^ k → 1 ≤ k → (hexText n).length ≤ k
end

