-- ==== Sys2Proof/Laws/State.lean ====
section
/-! SUPPORT. What each update of the state leaves in each block: one lemma per block per update, true by
definition, so that no later proof unfolds an update. -/

namespace Sys2Proof.Machine

variable (s : State)

@[simp] theorem State.report_pending (r : Report) : (s.report r).pending = s.pending := rfl
@[simp] theorem State.report_link (r : Report) : (s.report r).link = s.link.queueReport r := rfl
@[simp] theorem State.report_port (r : Report) : (s.report r).port = s.port := rfl
@[simp] theorem State.report_sweep (r : Report) : (s.report r).sweep = s.sweep := rfl
@[simp] theorem State.report_table (r : Report) : (s.report r).table = s.table := rfl
@[simp] theorem State.report_order (r : Report) : (s.report r).order = s.order := rfl
@[simp] theorem State.report_monitor (r : Report) : (s.report r).monitor = s.monitor := rfl
@[simp] theorem State.report_evidence (r : Report) : (s.report r).evidence = s.evidence := rfl
@[simp] theorem State.report_panel (r : Report) : (s.report r).panel = s.panel := rfl

@[simp] theorem State.freeSlot_pending : s.freeSlot.pending = s.pending := rfl
@[simp] theorem State.freeSlot_link : s.freeSlot.link = { s.link with slot := none } := rfl
@[simp] theorem State.freeSlot_port : s.freeSlot.port = s.port := rfl
@[simp] theorem State.freeSlot_sweep : s.freeSlot.sweep = s.sweep := rfl
@[simp] theorem State.freeSlot_table : s.freeSlot.table = s.table := rfl
@[simp] theorem State.freeSlot_order : s.freeSlot.order = s.order := rfl
@[simp] theorem State.freeSlot_monitor : s.freeSlot.monitor = s.monitor := rfl
@[simp] theorem State.freeSlot_evidence : s.freeSlot.evidence = s.evidence := rfl
@[simp] theorem State.freeSlot_panel : s.freeSlot.panel = s.panel := rfl

@[simp] theorem State.place_pending (w : RequestWord) (code : StatusCode) (fields : List Field) :
    (s.place w code fields).pending = s.pending := rfl
@[simp] theorem State.place_link (w : RequestWord) (code : StatusCode) (fields : List Field) :
    (s.place w code fields).link = { s.link with reply := .filled { word := w.text, code := code, fields := fields } } := rfl
@[simp] theorem State.place_port (w : RequestWord) (code : StatusCode) (fields : List Field) :
    (s.place w code fields).port = s.port := rfl
@[simp] theorem State.place_sweep (w : RequestWord) (code : StatusCode) (fields : List Field) :
    (s.place w code fields).sweep = s.sweep := rfl
@[simp] theorem State.place_table (w : RequestWord) (code : StatusCode) (fields : List Field) :
    (s.place w code fields).table = s.table := rfl
@[simp] theorem State.place_order (w : RequestWord) (code : StatusCode) (fields : List Field) :
    (s.place w code fields).order = s.order := rfl
@[simp] theorem State.place_monitor (w : RequestWord) (code : StatusCode) (fields : List Field) :
    (s.place w code fields).monitor = s.monitor := rfl
@[simp] theorem State.place_evidence (w : RequestWord) (code : StatusCode) (fields : List Field) :
    (s.place w code fields).evidence = s.evidence := rfl
@[simp] theorem State.place_panel (w : RequestWord) (code : StatusCode) (fields : List Field) :
    (s.place w code fields).panel = s.panel := rfl

@[simp] theorem State.buzz_pending (p : Pattern) : (s.buzz p).pending = s.pending := rfl
@[simp] theorem State.buzz_link (p : Pattern) : (s.buzz p).link = s.link := rfl
@[simp] theorem State.buzz_port (p : Pattern) : (s.buzz p).port = s.port := rfl
@[simp] theorem State.buzz_sweep (p : Pattern) : (s.buzz p).sweep = s.sweep := rfl
@[simp] theorem State.buzz_table (p : Pattern) : (s.buzz p).table = s.table := rfl
@[simp] theorem State.buzz_order (p : Pattern) : (s.buzz p).order = s.order := rfl
@[simp] theorem State.buzz_monitor (p : Pattern) : (s.buzz p).monitor = s.monitor := rfl
@[simp] theorem State.buzz_evidence (p : Pattern) : (s.buzz p).evidence = s.evidence := rfl
@[simp] theorem State.buzz_panel (p : Pattern) : (s.buzz p).panel = s.panel.buzz p := rfl

@[simp] theorem State.deactivate_pending : s.deactivate.pending = s.pending := rfl
@[simp] theorem State.deactivate_link : s.deactivate.link = s.link := rfl
@[simp] theorem State.deactivate_port : s.deactivate.port = s.port := rfl
@[simp] theorem State.deactivate_sweep : s.deactivate.sweep = s.sweep := rfl
@[simp] theorem State.deactivate_table : s.deactivate.table = s.table := rfl
@[simp] theorem State.deactivate_order : s.deactivate.order = s.order := rfl
@[simp] theorem State.deactivate_monitor :
    s.deactivate.monitor = { s.monitor with active := false } := rfl
@[simp] theorem State.deactivate_evidence : s.deactivate.evidence = s.evidence.fall := rfl
@[simp] theorem State.deactivate_panel : s.deactivate.panel = s.panel := rfl

@[simp] theorem State.activate_pending (r : SourceRecord) : (s.activate r).pending = s.pending := rfl
@[simp] theorem State.activate_link (r : SourceRecord) :
    (s.activate r).link = s.link.queueReport (.anm r) := rfl
@[simp] theorem State.activate_port (r : SourceRecord) : (s.activate r).port = s.port := rfl
@[simp] theorem State.activate_sweep (r : SourceRecord) : (s.activate r).sweep = s.sweep := rfl
@[simp] theorem State.activate_table (r : SourceRecord) : (s.activate r).table = s.table := rfl
@[simp] theorem State.activate_order (r : SourceRecord) : (s.activate r).order = s.order := rfl
@[simp] theorem State.activate_monitor (r : SourceRecord) :
    (s.activate r).monitor = { s.monitor with active := true, source := some r } := rfl
@[simp] theorem State.activate_evidence (r : SourceRecord) :
    (s.activate r).evidence = s.evidence.rise := rfl
@[simp] theorem State.activate_panel (r : SourceRecord) :
    (s.activate r).panel = s.panel.buzz .longTone := rfl

@[simp] theorem State.restartIdle_pending : s.restartIdle.pending = s.pending := rfl
@[simp] theorem State.restartIdle_link : s.restartIdle.link = s.link := rfl
@[simp] theorem State.restartIdle_port : s.restartIdle.port = s.port := rfl
@[simp] theorem State.restartIdle_sweep :
    s.restartIdle.sweep = { s.sweep with idleTimer := some s.link.settings.idleLimit } := rfl
@[simp] theorem State.restartIdle_table : s.restartIdle.table = s.table := rfl
@[simp] theorem State.restartIdle_order : s.restartIdle.order = s.order := rfl
@[simp] theorem State.restartIdle_monitor : s.restartIdle.monitor = s.monitor := rfl
@[simp] theorem State.restartIdle_evidence : s.restartIdle.evidence = s.evidence := rfl
@[simp] theorem State.restartIdle_panel : s.restartIdle.panel = s.panel := rfl

@[simp] theorem State.endSweep_pending : s.endSweep.pending = s.pending := rfl
@[simp] theorem State.endSweep_link : s.endSweep.link = s.link := rfl
@[simp] theorem State.endSweep_port : s.endSweep.port = s.port := rfl
@[simp] theorem State.endSweep_sweep :
    s.endSweep.sweep = { s.sweep with
      phase := .finalize, idleTimer := none, rateWindow := none
      record := { s.sweep.record with bleed := some s.link.settings.bleed } } := rfl
@[simp] theorem State.endSweep_table : s.endSweep.table = s.table := rfl
@[simp] theorem State.endSweep_order : s.endSweep.order = s.order := rfl
@[simp] theorem State.endSweep_monitor : s.endSweep.monitor = s.monitor := rfl
@[simp] theorem State.endSweep_evidence : s.endSweep.evidence = s.evidence := rfl
@[simp] theorem State.endSweep_panel : s.endSweep.panel = s.panel := rfl

@[simp] theorem State.endFiling_pending : s.endFiling.pending = s.pending := rfl
@[simp] theorem State.endFiling_link :
    s.endFiling.link = { s.link with slot := none, filing := false } := rfl
@[simp] theorem State.endFiling_port : s.endFiling.port = s.port := rfl
@[simp] theorem State.endFiling_sweep : s.endFiling.sweep = s.sweep := rfl
@[simp] theorem State.endFiling_table : s.endFiling.table = s.table := rfl
@[simp] theorem State.endFiling_order : s.endFiling.order = s.order := rfl
@[simp] theorem State.endFiling_monitor : s.endFiling.monitor = s.monitor := rfl
@[simp] theorem State.endFiling_evidence : s.endFiling.evidence = s.evidence := rfl
@[simp] theorem State.endFiling_panel : s.endFiling.panel = s.panel := rfl

@[simp] theorem State.beginClose_pending : s.beginClose.pending = s.pending := rfl
@[simp] theorem State.beginClose_link : s.beginClose.link = s.link := rfl
@[simp] theorem State.beginClose_port : s.beginClose.port = s.port := rfl
@[simp] theorem State.beginClose_sweep : s.beginClose.sweep = s.sweep := rfl
@[simp] theorem State.beginClose_table : s.beginClose.table = { s.table with run := .closing } := rfl
@[simp] theorem State.beginClose_order :
    s.beginClose.order = OrderUnit.beginRun s.table.entries s.link.settings.tolerance s.table.shelfNumbers := rfl
@[simp] theorem State.beginClose_monitor : s.beginClose.monitor = s.monitor := rfl
@[simp] theorem State.beginClose_evidence : s.beginClose.evidence = s.evidence := rfl
@[simp] theorem State.beginClose_panel : s.beginClose.panel = s.panel := rfl

@[simp] theorem State.discardRun_pending : s.discardRun.pending = s.pending := rfl
@[simp] theorem State.discardRun_link : s.discardRun.link = s.link.discardRun := rfl
@[simp] theorem State.discardRun_port : s.discardRun.port = s.port.reset := rfl
@[simp] theorem State.discardRun_sweep : s.discardRun.sweep = SweepUnit.cleared := rfl
@[simp] theorem State.discardRun_table : s.discardRun.table = s.table.discard := rfl
@[simp] theorem State.discardRun_order : s.discardRun.order = OrderUnit.cleared := rfl
@[simp] theorem State.discardRun_monitor : s.discardRun.monitor = s.monitor.reset := rfl
@[simp] theorem State.discardRun_evidence : s.discardRun.evidence = s.evidence.reset := rfl
@[simp] theorem State.discardRun_panel : s.discardRun.panel = s.panel := rfl

/-- Everything the end of an event can do: nothing while a barrier is due, else what the link's pump does. -/
theorem State.pump_cases :
    (∃ h, s.dueBarrier = some h ∧ s.pump = s) ∨
    (s.dueBarrier = none ∧ s.pump = { s with link := s.link.pump }) := by
  unfold State.pump
  split
  · exact .inl ⟨_, by assumption, rfl⟩
  · exact .inr ⟨by assumption, rfl⟩

/-- With the holding slot empty no barrier is due. -/
theorem State.dueBarrier_freed (h : s.link.slot = none) : s.dueBarrier = none := by
  unfold State.dueBarrier
  repeat' split
  all_goals first | exact h | rfl

/-- With the holding slot empty the end of an event is the link's pump. -/
theorem State.pump_freed (h : s.link.slot = none) : s.pump = { s with link := s.link.pump } := by
  simp [State.pump, s.dueBarrier_freed h]

@[simp] theorem State.pump_pending : s.pump.pending = s.pending := by unfold State.pump; split <;> rfl
@[simp] theorem State.pump_link : s.pump.link = if s.dueBarrier = none then s.link.pump else s.link := by
  unfold State.pump; split <;> simp [*]
@[simp] theorem State.pump_port : s.pump.port = s.port := by unfold State.pump; split <;> rfl
@[simp] theorem State.pump_sweep : s.pump.sweep = s.sweep := by unfold State.pump; split <;> rfl
@[simp] theorem State.pump_table : s.pump.table = s.table := by unfold State.pump; split <;> rfl
@[simp] theorem State.pump_order : s.pump.order = s.order := by unfold State.pump; split <;> rfl
@[simp] theorem State.pump_monitor : s.pump.monitor = s.monitor := by unfold State.pump; split <;> rfl
@[simp] theorem State.pump_evidence : s.pump.evidence = s.evidence := by unfold State.pump; split <;> rfl
@[simp] theorem State.pump_panel : s.pump.panel = s.panel := by unfold State.pump; split <;> rfl

@[simp] theorem State.settled_pending : s.settled.pending = s.pending := s.pump_pending
@[simp] theorem State.settled_link :
    s.settled.link = if s.dueBarrier = none then s.link.pump else s.link := s.pump_link
@[simp] theorem State.settled_port : s.settled.port = s.port := s.pump_port
@[simp] theorem State.settled_sweep : s.settled.sweep = s.sweep := s.pump_sweep
@[simp] theorem State.settled_table : s.settled.table = s.table := s.pump_table
@[simp] theorem State.settled_order : s.settled.order = s.order := s.pump_order
@[simp] theorem State.settled_monitor : s.settled.monitor = s.monitor := s.pump_monitor
@[simp] theorem State.settled_evidence : s.settled.evidence = s.evidence := s.pump_evidence
@[simp] theorem State.settled_panel : s.settled.panel = s.panel := s.pump_panel

@[simp] theorem State.quiet_pending : s.quiet.pending = s.pending := rfl
@[simp] theorem State.quiet_link : s.quiet.link = ({ s.link with slot := none } : LinkUnit).pump := rfl
@[simp] theorem State.quiet_port : s.quiet.port = s.port := rfl
@[simp] theorem State.quiet_sweep : s.quiet.sweep = s.sweep := rfl
@[simp] theorem State.quiet_table : s.quiet.table = s.table := rfl
@[simp] theorem State.quiet_order : s.quiet.order = s.order := rfl
@[simp] theorem State.quiet_monitor : s.quiet.monitor = s.monitor := rfl
@[simp] theorem State.quiet_evidence : s.quiet.evidence = s.evidence := rfl
@[simp] theorem State.quiet_panel : s.quiet.panel = s.panel := rfl

@[simp] theorem State.replied_pending (w : RequestWord) (code : StatusCode) (fields : List Field) :
    (s.replied w code fields).pending = s.pending := rfl
@[simp] theorem State.replied_link (w : RequestWord) (code : StatusCode) (fields : List Field) :
    (s.replied w code fields).link = ({ s.link with
      slot := none, reply := .filled { word := w.text, code := code, fields := fields } } : LinkUnit).pump := rfl
@[simp] theorem State.replied_port (w : RequestWord) (code : StatusCode) (fields : List Field) :
    (s.replied w code fields).port = s.port := rfl
@[simp] theorem State.replied_sweep (w : RequestWord) (code : StatusCode) (fields : List Field) :
    (s.replied w code fields).sweep = s.sweep := rfl
@[simp] theorem State.replied_table (w : RequestWord) (code : StatusCode) (fields : List Field) :
    (s.replied w code fields).table = s.table := rfl
@[simp] theorem State.replied_order (w : RequestWord) (code : StatusCode) (fields : List Field) :
    (s.replied w code fields).order = s.order := rfl
@[simp] theorem State.replied_monitor (w : RequestWord) (code : StatusCode) (fields : List Field) :
    (s.replied w code fields).monitor = s.monitor := rfl
@[simp] theorem State.replied_evidence (w : RequestWord) (code : StatusCode) (fields : List Field) :
    (s.replied w code fields).evidence = s.evidence := rfl
@[simp] theorem State.replied_panel (w : RequestWord) (code : StatusCode) (fields : List Field) :
    (s.replied w code fields).panel = s.panel := rfl

@[simp] theorem State.dropAtQueue_pending : s.dropAtQueue.pending = s.pending := rfl
@[simp] theorem State.dropAtQueue_link : s.dropAtQueue.link = s.link := rfl
@[simp] theorem State.dropAtQueue_port : s.dropAtQueue.port = s.port.drop := rfl
@[simp] theorem State.dropAtQueue_sweep :
    s.dropAtQueue.sweep = { s.sweep with record := s.sweep.record.countDropped } := rfl
@[simp] theorem State.dropAtQueue_table : s.dropAtQueue.table = s.table := rfl
@[simp] theorem State.dropAtQueue_order : s.dropAtQueue.order = s.order := rfl
@[simp] theorem State.dropAtQueue_monitor : s.dropAtQueue.monitor = s.monitor := rfl
@[simp] theorem State.dropAtQueue_evidence : s.dropAtQueue.evidence = s.evidence := rfl
@[simp] theorem State.dropAtQueue_panel : s.dropAtQueue.panel = s.panel := rfl

end Sys2Proof.Machine
end

