-- ==== Sys2Proof/Laws/Link.lean ====
section
/-! SUPPORT. What the link's queues and its transmitter can do: the fields each leaves alone, and the cases
of a report queued, a refusal queued and a transmission begun. -/

namespace Sys2Proof.Machine

variable (l : LinkUnit)

/-! ## The report queue (R159) -/

/-- A report with room joins the queue; a CAL among them sets the mark. -/
theorem LinkUnit.queueReport_room (r : Report) (h : l.reports.length < Config.reportQueueSize) :
    l.queueReport r = { l with reports := l.reports ++ [r], callPending := l.callPending || r == .cal } := by
  simp [LinkUnit.queueReport, h]

/-- A report at the full queue is counted and lost. -/
theorem LinkUnit.queueReport_full (r : Report) (h : ¬ l.reports.length < Config.reportQueueSize) :
    l.queueReport r = { l with reportsDropped := satInc Config.count8Max l.reportsDropped } := by
  simp [LinkUnit.queueReport, h]

@[simp] theorem LinkUnit.queueReport_parser (r : Report) : (l.queueReport r).parser = l.parser := by
  unfold LinkUnit.queueReport; split <;> rfl
@[simp] theorem LinkUnit.queueReport_buffer (r : Report) : (l.queueReport r).buffer = l.buffer := by
  unfold LinkUnit.queueReport; split <;> rfl
@[simp] theorem LinkUnit.queueReport_slot (r : Report) : (l.queueReport r).slot = l.slot := by
  unfold LinkUnit.queueReport; split <;> rfl
@[simp] theorem LinkUnit.queueReport_filing (r : Report) : (l.queueReport r).filing = l.filing := by
  unfold LinkUnit.queueReport; split <;> rfl
@[simp] theorem LinkUnit.queueReport_barrier (r : Report) : (l.queueReport r).barrier = l.barrier := by
  unfold LinkUnit.queueReport; split <;> rfl
@[simp] theorem LinkUnit.queueReport_reply (r : Report) : (l.queueReport r).reply = l.reply := by
  unfold LinkUnit.queueReport; split <;> rfl
@[simp] theorem LinkUnit.queueReport_refusals (r : Report) : (l.queueReport r).refusals = l.refusals := by
  unfold LinkUnit.queueReport; split <;> rfl
@[simp] theorem LinkUnit.queueReport_refusalsLost (r : Report) : (l.queueReport r).refusalsLost = l.refusalsLost := by
  unfold LinkUnit.queueReport; split <;> rfl
@[simp] theorem LinkUnit.queueReport_allowance (r : Report) : (l.queueReport r).allowance = l.allowance := by
  unfold LinkUnit.queueReport; split <;> rfl
@[simp] theorem LinkUnit.queueReport_sending (r : Report) : (l.queueReport r).sending = l.sending := by
  unfold LinkUnit.queueReport; split <;> rfl
@[simp] theorem LinkUnit.queueReport_settings (r : Report) : (l.queueReport r).settings = l.settings := by
  unfold LinkUnit.queueReport; split <;> rfl
@[simp] theorem LinkUnit.queueReport_baud (r : Report) : (l.queueReport r).baud = l.baud := by
  unfold LinkUnit.queueReport; split <;> rfl

/-! ## The refusal queue (R156) -/

/-- A refusal with room joins the queue. -/
theorem LinkUnit.queueRefusal_room (r : Reply) (h : l.refusals.length < Config.refusalQueueSize) :
    l.queueRefusal r = { l with refusals := l.refusals ++ [r] } := by
  simp [LinkUnit.queueRefusal, h]

/-- A refusal at the full queue is counted and lost. -/
theorem LinkUnit.queueRefusal_full (r : Reply) (h : ¬ l.refusals.length < Config.refusalQueueSize) :
    l.queueRefusal r = { l with refusalsLost := satInc Config.count8Max l.refusalsLost } := by
  simp [LinkUnit.queueRefusal, h]

@[simp] theorem LinkUnit.queueRefusal_parser (r : Reply) : (l.queueRefusal r).parser = l.parser := by
  unfold LinkUnit.queueRefusal; split <;> rfl
@[simp] theorem LinkUnit.queueRefusal_buffer (r : Reply) : (l.queueRefusal r).buffer = l.buffer := by
  unfold LinkUnit.queueRefusal; split <;> rfl
@[simp] theorem LinkUnit.queueRefusal_slot (r : Reply) : (l.queueRefusal r).slot = l.slot := by
  unfold LinkUnit.queueRefusal; split <;> rfl
@[simp] theorem LinkUnit.queueRefusal_filing (r : Reply) : (l.queueRefusal r).filing = l.filing := by
  unfold LinkUnit.queueRefusal; split <;> rfl
@[simp] theorem LinkUnit.queueRefusal_barrier (r : Reply) : (l.queueRefusal r).barrier = l.barrier := by
  unfold LinkUnit.queueRefusal; split <;> rfl
@[simp] theorem LinkUnit.queueRefusal_reply (r : Reply) : (l.queueRefusal r).reply = l.reply := by
  unfold LinkUnit.queueRefusal; split <;> rfl
@[simp] theorem LinkUnit.queueRefusal_reports (r : Reply) : (l.queueRefusal r).reports = l.reports := by
  unfold LinkUnit.queueRefusal; split <;> rfl
@[simp] theorem LinkUnit.queueRefusal_reportsDropped (r : Reply) : (l.queueRefusal r).reportsDropped = l.reportsDropped := by
  unfold LinkUnit.queueRefusal; split <;> rfl
@[simp] theorem LinkUnit.queueRefusal_allowance (r : Reply) : (l.queueRefusal r).allowance = l.allowance := by
  unfold LinkUnit.queueRefusal; split <;> rfl
@[simp] theorem LinkUnit.queueRefusal_sending (r : Reply) : (l.queueRefusal r).sending = l.sending := by
  unfold LinkUnit.queueRefusal; split <;> rfl
@[simp] theorem LinkUnit.queueRefusal_callPending (r : Reply) : (l.queueRefusal r).callPending = l.callPending := by
  unfold LinkUnit.queueRefusal; split <;> rfl
@[simp] theorem LinkUnit.queueRefusal_settings (r : Reply) : (l.queueRefusal r).settings = l.settings := by
  unfold LinkUnit.queueRefusal; split <;> rfl
@[simp] theorem LinkUnit.queueRefusal_baud (r : Reply) : (l.queueRefusal r).baud = l.baud := by
  unfold LinkUnit.queueRefusal; split <;> rfl

/-! ## The transmitter (R160, R161) -/

/-- A report under the FE allowance changes only the allowance and the reply slot. -/
theorem LinkUnit.countFetched_eq :
    l.countFetched = { l with allowance := l.countFetched.allowance, reply := l.countFetched.reply } := by
  unfold LinkUnit.countFetched; split <;> rfl

@[simp] theorem LinkUnit.countFetched_allowance : l.countFetched.allowance = l.allowance - 1 := by
  unfold LinkUnit.countFetched; split <;> rfl

/-- With a request to be taken the transmitter begins nothing. -/
theorem LinkUnit.pump_takeable (x : Held) (h : l.takeable = some x) : l.pump = l := by
  simp [LinkUnit.pump, h]

/-- A busy transmitter begins nothing. -/
theorem LinkUnit.pump_busy (r : Outbound) (h : l.sending = some r) : l.pump = l := by
  simp [LinkUnit.pump, h]

/-- Everything one pump can do: nothing, or, with the transmitter free and no request to be taken, the
reply, the oldest refusal, or the head of the report queue under the allowance or under streaming. -/
theorem LinkUnit.pump_cases :
    l.pump = l ∨
    (∃ r, l.sending = none ∧ l.reply = .filled r ∧
      l.pump = { l with sending := some (.reply r), reply := .empty }) ∨
    (∃ r rest, l.sending = none ∧ l.takeable = none ∧ (∀ x, l.reply ≠ .filled x) ∧ l.refusals = r :: rest ∧
      l.pump = { l with sending := some (.reply r), refusals := rest }) ∨
    (∃ r rest, l.sending = none ∧ l.takeable = none ∧ (∀ x, l.reply ≠ .filled x) ∧ l.refusals = [] ∧
      l.reports = r :: rest ∧ 0 < l.allowance ∧ l.pump = (l.beginReport r rest).countFetched) ∨
    (∃ r rest, l.sending = none ∧ l.takeable = none ∧ (∀ x, l.reply ≠ .filled x) ∧ l.refusals = [] ∧
      l.reports = r :: rest ∧ l.allowance = 0 ∧ l.streamingInEffect = true ∧
      l.pump = l.beginReport r rest) := by
  by_cases hs : l.sending = none
  · by_cases ht : l.takeable = none
    · cases hr : l.reply with
      | filled r => exact .inr (.inl ⟨r, hs, rfl, by simp [LinkUnit.pump, hs, ht, hr]⟩)
      | empty | reserved =>
        cases hq : l.refusals with
        | cons r rest => exact .inr (.inr (.inl ⟨r, rest, hs, ht, by simp, rfl, by
            simp [LinkUnit.pump, LinkUnit.beginQueued, hs, ht, hr, hq]⟩))
        | nil =>
          cases hp : l.reports with
          | nil => exact .inl (by simp [LinkUnit.pump, LinkUnit.beginQueued, hs, ht, hr, hq, hp])
          | cons r rest =>
            by_cases ha : 0 < l.allowance
            · exact .inr (.inr (.inr (.inl ⟨r, rest, hs, ht, by simp, rfl, rfl, ha, by
                simp [LinkUnit.pump, LinkUnit.beginQueued, hs, ht, hr, hq, hp, ha]⟩)))
            · by_cases hst : l.streamingInEffect = true
              · exact .inr (.inr (.inr (.inr ⟨r, rest, hs, ht, by simp, rfl, rfl, by omega, hst, by
                  simp [LinkUnit.pump, LinkUnit.beginQueued, hs, ht, hr, hq, hp, ha, hst]⟩)))
              · exact .inl (by simp [LinkUnit.pump, LinkUnit.beginQueued, hs, ht, hr, hq, hp, ha, hst])
    · obtain ⟨x, hx⟩ := Option.ne_none_iff_exists'.mp ht
      exact .inl (l.pump_takeable x hx)
  · obtain ⟨r, hr⟩ := Option.ne_none_iff_exists'.mp hs
    exact .inl (l.pump_busy r hr)

@[simp] theorem LinkUnit.pump_parser : l.pump.parser = l.parser := by
  rcases l.pump_cases with h | ⟨_, _, _, h⟩ | ⟨_, _, _, _, _, _, h⟩ | ⟨_, _, _, _, _, _, _, _, h⟩ |
      ⟨_, _, _, _, _, _, _, _, _, h⟩ <;> rw [h] <;> first | rfl | (rw [LinkUnit.countFetched_eq]; rfl)

@[simp] theorem LinkUnit.pump_buffer : l.pump.buffer = l.buffer := by
  rcases l.pump_cases with h | ⟨_, _, _, h⟩ | ⟨_, _, _, _, _, _, h⟩ | ⟨_, _, _, _, _, _, _, _, h⟩ |
      ⟨_, _, _, _, _, _, _, _, _, h⟩ <;> rw [h] <;> first | rfl | (rw [LinkUnit.countFetched_eq]; rfl)

@[simp] theorem LinkUnit.pump_slot : l.pump.slot = l.slot := by
  rcases l.pump_cases with h | ⟨_, _, _, h⟩ | ⟨_, _, _, _, _, _, h⟩ | ⟨_, _, _, _, _, _, _, _, h⟩ |
      ⟨_, _, _, _, _, _, _, _, _, h⟩ <;> rw [h] <;> first | rfl | (rw [LinkUnit.countFetched_eq]; rfl)

@[simp] theorem LinkUnit.pump_filing : l.pump.filing = l.filing := by
  rcases l.pump_cases with h | ⟨_, _, _, h⟩ | ⟨_, _, _, _, _, _, h⟩ | ⟨_, _, _, _, _, _, _, _, h⟩ |
      ⟨_, _, _, _, _, _, _, _, _, h⟩ <;> rw [h] <;> first | rfl | (rw [LinkUnit.countFetched_eq]; rfl)

@[simp] theorem LinkUnit.pump_barrier : l.pump.barrier = l.barrier := by
  rcases l.pump_cases with h | ⟨_, _, _, h⟩ | ⟨_, _, _, _, _, _, h⟩ | ⟨_, _, _, _, _, _, _, _, h⟩ |
      ⟨_, _, _, _, _, _, _, _, _, h⟩ <;> rw [h] <;> first | rfl | (rw [LinkUnit.countFetched_eq]; rfl)

@[simp] theorem LinkUnit.pump_refusalsLost : l.pump.refusalsLost = l.refusalsLost := by
  rcases l.pump_cases with h | ⟨_, _, _, h⟩ | ⟨_, _, _, _, _, _, h⟩ | ⟨_, _, _, _, _, _, _, _, h⟩ |
      ⟨_, _, _, _, _, _, _, _, _, h⟩ <;> rw [h] <;> first | rfl | (rw [LinkUnit.countFetched_eq]; rfl)

@[simp] theorem LinkUnit.pump_reportsDropped : l.pump.reportsDropped = l.reportsDropped := by
  rcases l.pump_cases with h | ⟨_, _, _, h⟩ | ⟨_, _, _, _, _, _, h⟩ | ⟨_, _, _, _, _, _, _, _, h⟩ |
      ⟨_, _, _, _, _, _, _, _, _, h⟩ <;> rw [h] <;> first | rfl | (rw [LinkUnit.countFetched_eq]; rfl)

@[simp] theorem LinkUnit.pump_settings : l.pump.settings = l.settings := by
  rcases l.pump_cases with h | ⟨_, _, _, h⟩ | ⟨_, _, _, _, _, _, h⟩ | ⟨_, _, _, _, _, _, _, _, h⟩ |
      ⟨_, _, _, _, _, _, _, _, _, h⟩ <;> rw [h] <;> first | rfl | (rw [LinkUnit.countFetched_eq]; rfl)

@[simp] theorem LinkUnit.pump_baud : l.pump.baud = l.baud := by
  rcases l.pump_cases with h | ⟨_, _, _, h⟩ | ⟨_, _, _, _, _, _, h⟩ | ⟨_, _, _, _, _, _, _, _, h⟩ |
      ⟨_, _, _, _, _, _, _, _, _, h⟩ <;> rw [h] <;> first | rfl | (rw [LinkUnit.countFetched_eq]; rfl)

end Sys2Proof.Machine
end

