-- ==== Sys2Proof/Laws/Ops.lean ====
section
/-! SUPPORT. What the shared operations can do: the blocks each leaves alone, the cases of a wake, of an
evaluation and of ORDER completion, and the outcome of a request that is taken. -/

namespace Sys2Proof.Machine

variable (s : State)

/-! ## The wake and the evidence copy (R62, R144) -/

/-- An AWAKE controller has nothing to wake. -/
theorem State.wake_awake (c : WakeCause) (h : s.port.dormancy = .awake) : s.wake c = s := by
  simp [State.wake, h]

/-- A DORMANT controller becomes AWAKE and queues WAK. -/
theorem State.wake_dormant (c : WakeCause) (h : s.port.dormancy = .dormant) :
    s.wake c = ({ s with port := { s.port with dormancy := .awake } }).report (.wak c) := by
  simp [State.wake, h]

@[simp] theorem State.wake_pending (c : WakeCause) : (s.wake c).pending = s.pending := by
  unfold State.wake; split <;> rfl
@[simp] theorem State.wake_sweep (c : WakeCause) : (s.wake c).sweep = s.sweep := by
  unfold State.wake; split <;> rfl
@[simp] theorem State.wake_table (c : WakeCause) : (s.wake c).table = s.table := by
  unfold State.wake; split <;> rfl
@[simp] theorem State.wake_order (c : WakeCause) : (s.wake c).order = s.order := by
  unfold State.wake; split <;> rfl
@[simp] theorem State.wake_monitor (c : WakeCause) : (s.wake c).monitor = s.monitor := by
  unfold State.wake; split <;> rfl
@[simp] theorem State.wake_evidence (c : WakeCause) : (s.wake c).evidence = s.evidence := by
  unfold State.wake; split <;> rfl
@[simp] theorem State.wake_panel (c : WakeCause) : (s.wake c).panel = s.panel := by
  unfold State.wake; split <;> rfl

@[simp] theorem State.offerCopy_pending (r : StampedRead) : (s.offerCopy r).pending = s.pending := by
  unfold State.offerCopy; dsimp only; split <;> rfl
@[simp] theorem State.offerCopy_port (r : StampedRead) : (s.offerCopy r).port = s.port := by
  unfold State.offerCopy; dsimp only; split <;> rfl
@[simp] theorem State.offerCopy_sweep (r : StampedRead) : (s.offerCopy r).sweep = s.sweep := by
  unfold State.offerCopy; dsimp only; split <;> rfl
@[simp] theorem State.offerCopy_table (r : StampedRead) : (s.offerCopy r).table = s.table := by
  unfold State.offerCopy; dsimp only; split <;> rfl
@[simp] theorem State.offerCopy_order (r : StampedRead) : (s.offerCopy r).order = s.order := by
  unfold State.offerCopy; dsimp only; split <;> rfl
@[simp] theorem State.offerCopy_monitor (r : StampedRead) : (s.offerCopy r).monitor = s.monitor := by
  unfold State.offerCopy; dsimp only; split <;> rfl
@[simp] theorem State.offerCopy_panel (r : StampedRead) : (s.offerCopy r).panel = s.panel := by
  unfold State.offerCopy; dsimp only; split <;> rfl

@[simp] theorem State.offerCopy_evidence (r : StampedRead) :
    (s.offerCopy r).evidence = s.evidence.capture r := by
  unfold State.offerCopy; dsimp only; split <;> rfl

/-! ## Evaluation (R131, R134 to R137) -/

@[simp] theorem State.evaluate_pending (k : EvalKind) (l : Loc) (n : Nat) (ms : List (CondCode × Nat)) : (s.evaluate k l n ms).pending = s.pending := by
  unfold State.evaluate; dsimp only; repeat' split
  all_goals rfl
@[simp] theorem State.evaluate_port (k : EvalKind) (l : Loc) (n : Nat) (ms : List (CondCode × Nat)) : (s.evaluate k l n ms).port = s.port := by
  unfold State.evaluate; dsimp only; repeat' split
  all_goals rfl
@[simp] theorem State.evaluate_sweep (k : EvalKind) (l : Loc) (n : Nat) (ms : List (CondCode × Nat)) : (s.evaluate k l n ms).sweep = s.sweep := by
  unfold State.evaluate; dsimp only; repeat' split
  all_goals rfl
@[simp] theorem State.evaluate_table (k : EvalKind) (l : Loc) (n : Nat) (ms : List (CondCode × Nat)) : (s.evaluate k l n ms).table = s.table := by
  unfold State.evaluate; dsimp only; repeat' split
  all_goals rfl
@[simp] theorem State.evaluate_order (k : EvalKind) (l : Loc) (n : Nat) (ms : List (CondCode × Nat)) : (s.evaluate k l n ms).order = s.order := by
  unfold State.evaluate; dsimp only; repeat' split
  all_goals rfl

@[simp] theorem State.evaluate_link_slot (k : EvalKind) (l : Loc) (n : Nat) (ms : List (CondCode × Nat)) :
    (s.evaluate k l n ms).link.slot = s.link.slot := by
  unfold State.evaluate; dsimp only; repeat' split
  all_goals simp
@[simp] theorem State.evaluate_link_filing (k : EvalKind) (l : Loc) (n : Nat) (ms : List (CondCode × Nat)) :
    (s.evaluate k l n ms).link.filing = s.link.filing := by
  unfold State.evaluate; dsimp only; repeat' split
  all_goals simp
@[simp] theorem State.evaluate_link_barrier (k : EvalKind) (l : Loc) (n : Nat) (ms : List (CondCode × Nat)) :
    (s.evaluate k l n ms).link.barrier = s.link.barrier := by
  unfold State.evaluate; dsimp only; repeat' split
  all_goals simp
@[simp] theorem State.evaluate_link_reply (k : EvalKind) (l : Loc) (n : Nat) (ms : List (CondCode × Nat)) :
    (s.evaluate k l n ms).link.reply = s.link.reply := by
  unfold State.evaluate; dsimp only; repeat' split
  all_goals simp
@[simp] theorem State.evaluate_link_settings (k : EvalKind) (l : Loc) (n : Nat) (ms : List (CondCode × Nat)) :
    (s.evaluate k l n ms).link.settings = s.link.settings := by
  unfold State.evaluate; dsimp only; repeat' split
  all_goals simp
@[simp] theorem State.evaluate_link_parser (k : EvalKind) (l : Loc) (n : Nat) (ms : List (CondCode × Nat)) :
    (s.evaluate k l n ms).link.parser = s.link.parser := by
  unfold State.evaluate; dsimp only; repeat' split
  all_goals simp
@[simp] theorem State.evaluate_link_buffer (k : EvalKind) (l : Loc) (n : Nat) (ms : List (CondCode × Nat)) :
    (s.evaluate k l n ms).link.buffer = s.link.buffer := by
  unfold State.evaluate; dsimp only; repeat' split
  all_goals simp
@[simp] theorem State.evaluate_link_sending (k : EvalKind) (l : Loc) (n : Nat) (ms : List (CondCode × Nat)) :
    (s.evaluate k l n ms).link.sending = s.link.sending := by
  unfold State.evaluate; dsimp only; repeat' split
  all_goals simp
@[simp] theorem State.evaluate_link_refusals (k : EvalKind) (l : Loc) (n : Nat) (ms : List (CondCode × Nat)) :
    (s.evaluate k l n ms).link.refusals = s.link.refusals := by
  unfold State.evaluate; dsimp only; repeat' split
  all_goals simp
@[simp] theorem State.evaluate_link_refusalsLost (k : EvalKind) (l : Loc) (n : Nat) (ms : List (CondCode × Nat)) :
    (s.evaluate k l n ms).link.refusalsLost = s.link.refusalsLost := by
  unfold State.evaluate; dsimp only; repeat' split
  all_goals simp
@[simp] theorem State.evaluate_link_allowance (k : EvalKind) (l : Loc) (n : Nat) (ms : List (CondCode × Nat)) :
    (s.evaluate k l n ms).link.allowance = s.link.allowance := by
  unfold State.evaluate; dsimp only; repeat' split
  all_goals simp
@[simp] theorem State.evaluate_link_baud (k : EvalKind) (l : Loc) (n : Nat) (ms : List (CondCode × Nat)) :
    (s.evaluate k l n ms).link.baud = s.link.baud := by
  unfold State.evaluate; dsimp only; repeat' split
  all_goals simp

/-- An evaluation of disabled conditions alone sets their states and nothing else. -/
theorem State.evaluate_disabled (k : EvalKind) (l : Loc) (n : Nat) (ms : List (CondCode × Nat))
    (h : ms.any (fun m => ((s.monitor.conds.measure ms).get m.1).enabled) = false) :
    s.evaluate k l n ms =
      { s with monitor := { s.monitor with conds := s.monitor.conds.measure ms } } := by
  simp [State.evaluate, h]

/-- The record of a condition after it is put, and the other records. -/
@[simp] theorem Conditions.get_put (c : Conditions) (x y : CondCode) (r : Condition) :
    (c.put x r).get y = if y = x then r else c.get y := by
  cases x <;> cases y <;> rfl

/-! ## ORDER completion (R79) -/

@[simp] theorem State.completeOrder_pending : s.completeOrder.pending = s.pending := by
  unfold State.completeOrder; dsimp only; split <;> simp
@[simp] theorem State.completeOrder_port : s.completeOrder.port = s.port := by
  unfold State.completeOrder; dsimp only; split <;> simp
@[simp] theorem State.completeOrder_table : s.completeOrder.table = s.table := by
  unfold State.completeOrder; dsimp only; split <;> simp
@[simp] theorem State.completeOrder_order : s.completeOrder.order = s.order := by
  unfold State.completeOrder; dsimp only; split <;> simp

@[simp] theorem State.completeOrder_sweep :
    s.completeOrder.sweep = { s.sweep with phase := .idle } := by
  unfold State.completeOrder; dsimp only; split <;> simp

/-! ## Reports in a row -/

@[simp] theorem State.reportAll_pending (rs : List Report) : (s.reportAll rs).pending = s.pending := by
  induction rs generalizing s with
  | nil => rfl
  | cons r rs ih => simpa [State.reportAll] using ih (s.report r)
@[simp] theorem State.reportAll_port (rs : List Report) : (s.reportAll rs).port = s.port := by
  induction rs generalizing s with
  | nil => rfl
  | cons r rs ih => simpa [State.reportAll] using ih (s.report r)
@[simp] theorem State.reportAll_sweep (rs : List Report) : (s.reportAll rs).sweep = s.sweep := by
  induction rs generalizing s with
  | nil => rfl
  | cons r rs ih => simpa [State.reportAll] using ih (s.report r)
@[simp] theorem State.reportAll_table (rs : List Report) : (s.reportAll rs).table = s.table := by
  induction rs generalizing s with
  | nil => rfl
  | cons r rs ih => simpa [State.reportAll] using ih (s.report r)
@[simp] theorem State.reportAll_order (rs : List Report) : (s.reportAll rs).order = s.order := by
  induction rs generalizing s with
  | nil => rfl
  | cons r rs ih => simpa [State.reportAll] using ih (s.report r)
@[simp] theorem State.reportAll_monitor (rs : List Report) : (s.reportAll rs).monitor = s.monitor := by
  induction rs generalizing s with
  | nil => rfl
  | cons r rs ih => simpa [State.reportAll] using ih (s.report r)
@[simp] theorem State.reportAll_evidence (rs : List Report) : (s.reportAll rs).evidence = s.evidence := by
  induction rs generalizing s with
  | nil => rfl
  | cons r rs ih => simpa [State.reportAll] using ih (s.report r)
@[simp] theorem State.reportAll_panel (rs : List Report) : (s.reportAll rs).panel = s.panel := by
  induction rs generalizing s with
  | nil => rfl
  | cons r rs ih => simpa [State.reportAll] using ih (s.report r)

/-! ## Taking a request (R157, R158) -/

/-- The request that can be taken is the one in the holding slot. -/
theorem State.takeable_of_canTake {s : State} {r : Request} {d : Terminator} (h : CanTake s r d) :
    s.takeable = some { req := r, disp := d } := by
  obtain ⟨h1, h2, h3, h4⟩ := h
  simp [State.takeable, LinkUnit.takeable, h1, h2, h3, h4]

/-- A request that can be taken is taken, and its owner's decision acted on. -/
theorem takeRequest_taken {s : State} {r : Request} {d : Terminator} (h : CanTake s r d)
    {decide : Request → State → Option Decision} {x : Decision} (hd : decide r s.freeSlot = some x) :
    takeRequest decide s = finish (answer r.word d s.freeSlot x) := by
  unfold takeRequest
  rw [State.takeable_of_canTake h]
  dsimp only
  rw [hd]

/-- A request refused by its owner: the refusal is replied under every disposition. -/
theorem takeRequest_refused {s : State} {r : Request} {d : Terminator} (h : CanTake s r d)
    {decide : Request → State → Option Decision} {code : StatusCode} {fields : List Field}
    (hd : decide r s.freeSlot = some (.refuse code fields)) :
    takeRequest decide s = .next (s.replied r.word code fields) :=
  (takeRequest_taken h hd).trans (congrArg Host.Outcome.next (State.pump_freed _ rfl))

/-- A request accepted by its owner: CK under `=`, else its effect, replied to under `?`. -/
theorem takeRequest_accepted {s t : State} {r : Request} {d : Terminator} (h : CanTake s r d)
    {decide : Request → State → Option Decision} {fields : List Field}
    (hd : decide r s.freeSlot = some (.accept t fields)) (ht : t.link.slot = none) :
    takeRequest decide s = .next (s.accepted t r.word d fields) := by
  have hl : ({ t.link with slot := none } : LinkUnit) = t.link := by rw [← ht]
  have hs : (answer r.word d s.freeSlot (.accept t fields)).link.slot = none := by
    cases d
    · exact ht
    · exact ht
    · rfl
  rw [takeRequest_taken h hd, finish, State.pump_freed _ hs]
  cases d
  · simp only [answer, State.accepted, State.performed, State.quiet, hl, reduceCtorEq, if_false]
  · simp only [answer, State.accepted, State.performed, State.replied, State.place, ht,
      reduceCtorEq, if_false, if_true]
  · rfl

/-- A command finds no request of its own to take: the event does not occur. -/
theorem takeRequest_none {s : State} {decide : Request → State → Option Decision}
    (h : ∀ r d, CanTake s r d → decide r s.freeSlot = none) : takeRequest decide s = .next s := by
  unfold takeRequest
  cases hh : s.takeable with
  | none => rfl
  | some x =>
    have hc : CanTake s x.req x.disp := by
      unfold State.takeable LinkUnit.takeable at hh
      split at hh
      · rename_i hcond; exact ⟨by simpa using hh, hcond.1, hcond.2.1, hcond.2.2⟩
      · simp at hh
    simp [h _ _ hc]

end Sys2Proof.Machine
end

