-- ==== Sys2Proof/Tests/Slice0.lean ====
section
/-! SUPPORT. Tests of one event each, with the values the spec gives, and witnesses that the hypotheses of
the statements can be met, each clause at a boundary of its range. -/

namespace Sys2Proof.Tests

open Sys2Proof Sys2Proof.Machine

/-! ## Helpers -/

/-- The state an outcome answers. -/
def after : Host.Outcome State Fault Refusal → State
  | .next t => t
  | _ => State.reset

/-- A state with a request ready to be taken. -/
def holding (s : State) (r : Request) (d : Terminator) : State :=
  { s with link := { s.link with
      slot := some { req := r, disp := d }, reply := .empty, filing := false, barrier := none } }

/-- The request of `holding` can be taken: the hypothesis of every statement about a request. -/
theorem witness_canTake (s : State) (r : Request) (d : Terminator) : CanTake (holding s r d) r d :=
  ⟨rfl, rfl, rfl, rfl⟩

/-- The reply an event of a controller with a free transmitter sends: its status and fields. -/
def sent (s : State) : Option (StatusCode × List Field) :=
  match s.link.sending with
  | some (.reply r) => some (r.code, r.fields)
  | _ => none

/-- An expected entry with no count state. -/
def entry (rank code shelf : Nat) : Entry :=
  { rank := rank, code := BitVec.ofNat 64 code, shelf := shelf, watch := false, status := .available,
    placement := none, shelfStanding := .none, runStanding := .none, inSweep := false, lentSince := false,
    returned := .clear }

/-- A placement of sweep 1 with one read. -/
def placed (l : Loc) (x : Option Nat) (e : Nat) : Placement :=
  { loc := l, position := x, strength := e, reads := 1, sweep := 1 }

/-- One bay of two shelves, 600 mm wide, with two items. -/
def geometry : Geometry := { bays := 1, levels := 2, width := 600, items := 2 }

/-- The Count Table in LOADING with nothing filed. -/
def loadingTable : CountTable :=
  { CountTable.cleared with run := .loading, geometry := some geometry }

/-- The controller in LOADING. -/
def loading : State := { State.reset with table := loadingTable }

/-- The sealed Count Table: item 5 on shelf 1 and item 9, watched, on shelf 2. -/
def openTable : CountTable :=
  { loadingTable with
    run := .opened, load := { nextRank := 0, filed := 2, prevShelf := some 2 },
    entries := [entry 1 5 1, { entry 2 9 2 with watch := true }], cursor := 1 }

/-- The controller in OPEN with no sweep. -/
def opened : State := { State.reset with table := openTable }

/-- The controller with sweep 1, a NEW sweep of shelf 1, open. -/
def sweeping : State := opened.openSweep (.shelf 1) .new

/-- The sweep of `sweeping` ended. -/
def finalizing : State := sweeping.endSweep

/-- A read of item `code`, stamped in sweep 1 of shelf 1. -/
def stamped (code : ItemCode) (strength : BitVec 8) (x : Nat) : StampedRead :=
  { code := code, strength := strength, antenna := .front, position := x, target := .shelf 1, sweep := 1 }

/-- The sweep of `finalizing` with item 5 read at 100 mm with weight 20 and a foreign item 7 at 200 mm with
weight 10. -/
def folded : State := ((finalizing.foldRead (stamped 5 60 100)).foldRead (stamped 7 50 200))

/-- The commit of that sweep in flight. -/
def committing : State := folded.handOff (.shelf 1) .new 8

/-- The commit of `committing`. -/
def commitOf : Commit :=
  { number := 1, target := .shelf 1, mode := .new,
    offers := [{ code := 5, kind := .listed 1, position := some 100, strength := 20, reads := 1 },
      { code := 7, kind := .foreign, position := some 200, strength := 10, reads := 1 }],
    ranks := [1], facts := SweepFacts.cleared }

/-- ORDER after the commit event of `committing`, the job of shelf 1 in flight. -/
def ordering : State := committing.commitEvent commitOf

/-- A run with both shelves counted, and it CLOSING. -/
def closing : State :=
  State.beginClose
    { opened with table := { openTable with
        shelves := List.replicate 96 { LocRecord.cleared with state := .swept, sweepCount := 1 }
        entries := [{ entry 1 5 1 with placement := some (placed (.shelf 1) (some 100) 20) }, entry 2 9 2] } }

/-! ## The step, well-formedness and decoding -/

/-- An ill-formed term is refused, a character that is no terminator is not. -/
theorem test_wellFormed :
    WellFormed (.uartCharacter (asc ';')) = false ∧ WellFormed (.uartCharacter (asc '?')) = false ∧
    WellFormed (.uartCharacter (asc '=')) = false ∧ WellFormed (.uartCharacter (asc 'R')) = true := by
  decide

/-- The front command runs on the queue's rest; an empty queue idles. -/
theorem test_step :
    (after (step { State.reset with pending := [.modeSwitchChange .localMode, .callPress] })).pending =
      [.callPress] ∧
    State.reset.pending = [] ∧ after (step State.reset) = State.reset := by decide

/-- No row of the table gives bits. -/
theorem test_decode : decodeTableWord 16 0x5242 = none ∧ State.reset.withFetchWord 16 0x5242 = State.reset := by
  decide

/-! ## Power-on, reset and invariants -/

/-- Power-on returns every block of a busy controller to its power-on value (R1, R153, R163). -/
theorem test_powerOn :
    after (exec (.powerOn .baud115200 .localMode) sweeping) =
      { State.reset with
        link := { State.reset.link with baud := .baud115200 }, panel := { State.reset.panel with
          switch := .localMode } } ∧
    State.reset.link.settings.tolerance = 30 := by decide

/-- A list of cleared records reads as cleared. -/
theorem cleared_getD (k n : Nat) :
    (List.replicate k LocRecord.cleared).getD n LocRecord.cleared = LocRecord.cleared := by
  simp only [List.getD_eq_getElem?_getD, List.getElem?_replicate]
  split <;> rfl

/-- The Count Table of a RECOUNT of shelf 1 in COMMIT, of three shelves with two counted: item 5 placed on
shelf 1 and lent since, item 6 returned during the recount, items 9 and 10 placed on shelf 2. -/
def recountTable : CountTable :=
  { CountTable.cleared with
    run := .opened, geometry := some { geometry with levels := 3, items := 4 },
    load := { nextRank := 0, filed := 4, prevShelf := some 2 }, cursor := 3, sweepNumber := 7,
    shelves := { LocRecord.cleared with state := .sweeping, sweepCount := 1 } ::
      { LocRecord.cleared with state := .swept, sweepCount := 1 } :: List.replicate 94 LocRecord.cleared,
    entries :=
      [{ entry 1 5 1 with
          status := .onLoan, placement := some (placed (.shelf 1) (some 100) 20), shelfStanding := .inOrder, lentSince := true },
        { entry 2 6 1 with returned := .setDuring },
        { entry 3 9 2 with
          watch := true, placement := some (placed (.shelf 2) (some 5) 30), shelfStanding := .inOrder,
          inSweep := true },
        { entry 4 10 2 with
          placement := some (placed (.shelf 2) (some 6) 40), shelfStanding := .inOrder, inSweep := true }] }

/-- The commit in flight in `recounting`: item 9 outweighs its placement, item 10 does not. -/
def recountCommit : Commit :=
  { number := 7, target := .shelf 1, mode := .recount,
    offers := [{ code := 9, kind := .listed 3, position := some 7, strength := 31, reads := 1 },
      { code := 10, kind := .listed 4, position := some 8, strength := 31, reads := 1 }],
    ranks := [3, 4], facts := SweepFacts.cleared }

/-- A sighting with front weight 31. -/
def heard (code rank x : Nat) : Sighting :=
  { newSighting (BitVec.ofNat 64 code) (.listed rank) with reads := 1, moment := 31 * x, front := 31 }

/-- The RECOUNT in COMMIT, its event waiting in the queue. -/
def recounting : State :=
  { State.reset with
    pending := [.commit]
    table := recountTable
    sweep := { SweepUnit.cleared with
      phase := .commit, sightings := [heard 9 3 7, heard 10 4 8], inFlight := some recountCommit
      record := { OpenRecord.cleared with
        number := 7, target := some (.shelf 1), mode := some .recount, bleed := some 8, sighted := 2 } } }

/-- The records of `recounting`: shelf 1 SWEEPING, shelf 2 SWEPT, every other location cleared. -/
theorem recounting_recordAt (l : Loc) : recounting.table.recordAt l =
    if l = .shelf 1 then { LocRecord.cleared with state := .sweeping, sweepCount := 1 }
    else if l = .shelf 2 then { LocRecord.cleared with state := .swept, sweepCount := 1 }
    else LocRecord.cleared := by
  match l with
  | .shelf 0 => rfl
  | .shelf 1 => rfl
  | .shelf 2 => rfl
  | .shelf (n + 3) => rw [if_neg (by simp), if_neg (by simp)]; exact cleared_getD 94 n
  | .loose 0 => rfl
  | .loose (n + 1) => rw [if_neg (by simp), if_neg (by simp)]; exact cleared_getD 8 n

/-- The location records of `recounting` are sound. -/
theorem recounting_locations : recounting.LocationsSound where
  sweeping l := by
    rw [recounting_recordAt, show recounting.sweep.record.target = some (.shelf 1) from rfl]
    by_cases h : l = .shelf 1
    · subst h; decide
    · by_cases h2 : l = .shelf 2
      · subst h2; decide
      · simp [h, h2, LocRecord.cleared]; exact fun _ => Ne.symm h
  unswept l := by
    rw [recounting_recordAt]; (repeat' split) <;> intro h <;> first | rfl | exact absurd h (by decide)
  swept l := by
    rw [recounting_recordAt]; (repeat' split) <;> intro h <;> first | decide | exact absurd h (by decide)
  target _ l h := by
    rw [show recounting.sweep.record.target = some (.shelf 1) from rfl] at h
    cases h; decide
  placements p h := by
    rcases h with ⟨e, he, hp⟩ | ⟨f, hf, _⟩
    · have : p ∈ [placed (.shelf 1) (some 100) 20, placed (.shelf 2) (some 5) 30,
          placed (.shelf 2) (some 6) 40] := by
        have : ∀ e ∈ recounting.table.entries, ∀ p ∈ e.placement, p ∈ [placed (.shelf 1) (some 100) 20,
          placed (.shelf 2) (some 5) 30, placed (.shelf 2) (some 6) 40] := by decide
        exact this e he p hp
      have good : ∀ p ∈ [placed (.shelf 1) (some 100) 20, placed (.shelf 2) (some 5) 30,
          placed (.shelf 2) (some 6) 40],
          recounting.table.hasLoc p.loc = true ∧ 1 ≤ (recounting.table.recordAt p.loc).sweepCount ∧
          (p.position = none ↔ p.strength = 0) ∧
          ∀ x ∈ p.position, p.loc.isShelf = true ∧ x ≤ recounting.table.pMax.getD 0 := by decide
      exact good p this
    · exact absurd hf (by rw [show recounting.table.foreign = [] from rfl]; simp)

/-- The expected list of `recounting` is sound. -/
theorem recounting_list : recounting.ListSound where
  ranks := by decide
  codes := by decide
  nonzero := by decide
  shelves := by decide
  onShelves := by decide
  emptyRun := by decide
  loading h := absurd h (by decide)
  isSealed := by decide

/-- The queues, tables and counters of `recounting` are in their ranges. -/
theorem recounting_capacities : recounting.Capacities where
  buffer := by decide
  refusals := by decide
  reports := by decide
  allowance := by decide
  settings := by unfold Settings.InRange; decide
  queue := by decide
  port := by decide
  sightings := by unfold Sighting.InRange; decide
  record := by unfold SweepFacts.InRange Outcomes.InRange; decide
  idleTimer n h := by cases h
  inFlight c h := by cases h; unfold SweepFacts.InRange; decide
  geometry g h := by cases h; unfold Geometry.InRange; decide
  foreign := ⟨by decide, by decide, fun f h => absurd h (List.not_mem_nil)⟩
  records := by unfold SweepFacts.InRange; decide
  cursor := by decide
  sweepNumber := by decide
  jobs := ⟨by decide, fun n h => by cases h⟩
  monitor := ⟨by decide, by decide, fun c => by cases c <;> decide⟩
  evidence := by decide
  buzzer := by decide

/-- The blocks of `recounting` stand to one another as they must. -/
theorem recounting_controlled : recounting.Controlled where
  sweepInOpenRun := by decide
  queueWhileFolding := by decide
  tableWhileClaimed := by decide
  timerInOpen := by decide
  bleedCaptured := by decide
  commitInFlight := ⟨by decide, fun c h => by cases h; decide⟩
  shelfJobInOrder := ⟨by decide, fun t => by
    rw [show recounting.order = OrderUnit.cleared from rfl]; simp [OrderUnit.cleared]⟩
  runJobInClosing := by decide
  geometryInRun := by decide
  dormantWhenIdle := by decide
  filingHoldsSlot h := absurd h (by decide)
  barrierHoldsSlot b h := by rw [show recounting.link.barrier = none from rfl] at h; cases h
  allowanceReserved := ⟨by
    rw [show recounting.link.allowance = 0 from rfl, show recounting.link.reply = .empty from rfl]
    simp, by decide⟩

/-- The sightings and offers of `recounting` are sound. -/
theorem recounting_sightings : recounting.SightingsSound where
  codes := by decide
  kinds := by decide
  offers c h := by
    cases h
    refine ⟨by decide, fun o ho => ?_⟩
    rcases List.mem_cons.1 ho with rfl | ho
    · exact ⟨by decide, by decide, by decide, fun x hx => by cases hx; decide⟩
    · rcases List.mem_singleton.1 ho with rfl
      exact ⟨by decide, by decide, by decide, fun x hx => by cases hx; decide⟩
  nonzero := by decide
  stamps := by decide

/-- The standings of `recounting` are sound. -/
theorem recounting_standings : recounting.StandingsSound where
  shelf e he := by
    have : ∀ e ∈ recounting.table.entries, e.shelfStanding ≠ .none ↔
        ∃ p ∈ e.placement, p.loc.isShelf = true ∧ p.position.isSome = true := by decide
    rw [this e he]
    constructor
    · rintro ⟨p, hp, h1, h2⟩
      cases hl : p.loc with
      | shelf t => exact ⟨p, t, hp, hl, h2⟩
      | loose i => rw [hl] at h1; cases h1
    · rintro ⟨p, t, hp, hl, h2⟩; exact ⟨p, hp, by rw [hl]; rfl, h2⟩
  pending := by
    intro e he h
    have : ∀ e ∈ recounting.table.entries, e.shelfStanding ≠ .pending := by decide
    exact absurd h (this e he)
  closedRun h := absurd h (by decide)
  openRun := by decide
  shelfWalk t h := by cases h
  runWalk h := absurd h (by decide)

/-- A state of a RECOUNT in COMMIT meets every invariant, and a step of it answers a next state: the
hypotheses of the statements on what every step keeps, of those on the commit event, and of those on the
totals and the counts of a location. -/
theorem witness_invariants :
    recounting.Capacities ∧ recounting.Controlled ∧ recounting.ListSound ∧ recounting.SightingsSound ∧
    recounting.MarksSound ∧ recounting.LocationsSound ∧ recounting.StandingsSound ∧
    recounting.EvidenceSound ∧ recounting.sweep.phase = .commit ∧
    recounting.sweep.inFlight = some recountCommit ∧ recounting.table.run.hasVerdicts = true ∧
    recounting.table.items = some 4 ∧ recounting.table.sweepCount 3 = 0 ∧
    (∃ t, exec .commit recounting = .next t) ∧ ∃ t, step recounting = .next t :=
  ⟨recounting_capacities, recounting_controlled, recounting_list, recounting_sightings,
    ⟨by decide, by decide, by decide, by decide, by decide⟩, recounting_locations, recounting_standings, rfl, by decide,
    by decide, by decide, by decide, by decide, ⟨_, rfl⟩, ⟨_, rfl⟩⟩

/-- The state of `recounting` with a commit of no offers in flight, NEW, on a target. -/
def committingNone (target : Loc) : State :=
  { recounting with
    sweep := { recounting.sweep with
      sightings := []
      inFlight := some { recountCommit with target := target, mode := .new, offers := [], ranks := [] }
      record := { recounting.sweep.record with target := some target, mode := some .new } } }

/-- It meets the hypotheses of the statement on a commit's counts and reports, and its commit affects no shelf. -/
theorem witness_committingNone (target : Loc) :
    (committingNone target).Controlled ∧ (committingNone target).ListSound ∧
    (committingNone target).SightingsSound ∧ (committingNone target).sweep.phase = .commit :=
  ⟨{ recounting_controlled with
      sweepInOpenRun := fun _ => ⟨rfl, rfl, rfl⟩
      tableWhileClaimed := fun _ => rfl
      commitInFlight := ⟨⟨fun _ => rfl, fun _ => rfl⟩, fun c h => by cases h; exact ⟨rfl, rfl⟩⟩ },
    { recounting_list with },
    { codes := List.nodup_nil
      kinds := fun x h => absurd h (List.not_mem_nil)
      offers := fun c h => by cases h; exact ⟨List.nodup_nil, fun o ho => absurd ho (List.not_mem_nil)⟩
      nonzero := ⟨fun x h => absurd h (List.not_mem_nil), fun x h => absurd h (List.not_mem_nil),
        fun x h => absurd h (List.not_mem_nil), fun x h => absurd h (List.not_mem_nil)⟩
      stamps := fun r h => absurd h (List.not_mem_nil) }, rfl⟩

/-- A commit that affects no shelf queues SWD at its event, after evaluating the shelf conditions of a shelf
target alone (R79, R80). -/
theorem test_commitNone :
    let watch := fun s : State => { s with monitor := { s.monitor with
      conds := s.monitor.conds.put .fillLo { threshold := 1, enabled := true, state := false } } }
    let run := fun l => after (exec .commit (watch (committingNone l)))
    (run (.shelf 3)).order.jobs = [] ∧ (run (.shelf 3)).monitor.active = true ∧
    ((run (.shelf 3)).link.reports = [.swd (run (.shelf 3)).sweep.record]) ∧
    (run (.loose 1)).order.jobs = [] ∧ (run (.loose 1)).monitor.active = false ∧
    (run (.loose 1)).link.sending = some (.report (.swd (run (.loose 1)).sweep.record)) := by decide

/-- The commit of `recounting`: one entry vacated and left unplaced, one unplaced with its mark converted, one
moved in with its WSN report, one kept and awaiting its shelf's job (R94 to R101). -/
theorem test_commit_recount :
    let t := after (exec .commit recounting)
    t.table.entries.map (·.placement) = [none, none,
      some { placed (.shelf 1) (some 7) 31 with sweep := 7 }, some (placed (.shelf 2) (some 6) 40)] ∧
    t.table.entries.map (·.lentSince) = [false, false, false, false] ∧
    t.table.entries.map (·.returned) = [.clear, .set, .clear, .clear] ∧
    t.table.entries.map (·.shelfStanding) = [.none, .none, .pending, .pending] ∧
    t.table.entries.map (·.inSweep) = [false, false, false, false] ∧ t.order.jobs = [1, 2] ∧
    t.table.cursor = 3 ∧ (t.table.recordAt (.shelf 1)).sweepCount = 2 ∧
    t.link.sending = some (.report (.wsn 7 3 9 (.shelf 1) (some 7) (some (.shelf 2)))) ∧
    t.sweep.record.outcomes = { Outcomes.zero with movedIn := 1, keptElsewhere := 1 } := by decide

/-! ## Verdicts, counts and geometry -/

/-- A placed entry expected on shelf 1. -/
def placedEntry (p : Placement) (standing : Standing) : Entry :=
  { entry 1 5 1 with placement := some p, shelfStanding := standing }

/-- One placed entry of each row of R35, in a run that has verdicts. -/
theorem test_placed_verdicts :
    openTable.run.hasVerdicts = true ∧
    openTable.verdict (placedEntry (placed (.loose 8) none 0) .none) = some .loose ∧
    openTable.verdict (placedEntry (placed (.shelf 1) none 0) .none) = some .heard ∧
    openTable.verdict (placedEntry (placed (.shelf 1) (some 0) 1) .inOrder) = some .inPlace ∧
    openTable.verdict (placedEntry (placed (.shelf 2) (some 750) 1) .inOrder) = some .shifted ∧
    openTable.verdict (placedEntry (placed (.shelf 1) (some 0) 1) .out) = some .misordered ∧
    openTable.verdict (placedEntry (placed (.shelf 1) (some 0) 1) .pending) = some .pending ∧
    openTable.verdict (placedEntry (placed (.shelf 1) (some 0) 1) .none) = some .pending ∧
    ({ openTable with run := .closed } : CountTable).verdict
      (placedEntry (placed (.shelf 1) (some 0) 1) .inOrder) = some .pending := by decide

/-- One unplaced entry of each row of R36: its shelf counted once, and not yet. -/
theorem test_unplaced_verdicts :
    let once : CountTable := { openTable with shelves := [{ LocRecord.cleared with sweepCount := 1 }] }
    let e := entry 1 5 1
    once.run.hasVerdicts = true ∧ e.placement = none ∧ (once.recordAt (.shelf 1)).sweepCount = 1 ∧
    once.verdict { e with status := .onLoan } = some .accounted ∧
    once.verdict { e with status := .inTransit, returned := .set } = some .accounted ∧
    once.verdict { e with returned := .set } = some .awaitingShelving ∧
    once.verdict { e with returned := .setDuring } = some .awaitingShelving ∧
    once.verdict e = some .missing ∧ openTable.verdict e = some .notCounted ∧
    once.verdict { e with status := .declaredMissing, returned := .set } = some .stillMissing ∧
    openTable.verdict { e with status := .declaredMissing } = some .notCounted := by decide

/-- A state before the seal, with no verdicts and totals of 0. -/
theorem test_totals :
    loading.table.run.hasVerdicts = false ∧ loading.table.totals.sum = 0 ∧
    openTable.totals = [0, 0, 0, 0, 0, 0, 0, 0, 0, 0, 2] := by decide

/-- The smallest and the largest geometry are in range; the shelves of the largest at its corners, and
neighbours across a bay and along a level (R8, R9). -/
theorem test_geometry :
    let small : Geometry := { bays := 1, levels := 1, width := 600, items := 1 }
    let large : Geometry := { bays := 12, levels := 8, width := 1200, items := 2048 }
    (1 ≤ small.bays ∧ 1 ≤ small.levels ∧ 600 ≤ small.width ∧ 1 ≤ small.items) ∧
    (large.bays ≤ 12 ∧ large.levels ≤ 8 ∧ large.width ≤ 1200 ∧ large.items ≤ 2048) ∧
    small.shelfCount = 1 ∧ large.shelfCount = 96 ∧ large.pMax = 1350 ∧
    large.bay 96 = 12 ∧ large.level 96 = 8 ∧ large.bay 1 = 1 ∧ large.level 1 = 1 ∧
    large.neighbours 1 2 = true ∧ large.neighbours 1 9 = true ∧ large.neighbours 8 9 = false ∧
    large.level 8 = large.levels ∧ large.neighbours 96 97 = false ∧ large.neighbours 0 1 = false := by decide

/-- Geometries at both ends of the ranges of R2. -/
theorem witness_geometry :
    Geometry.InRange { bays := 1, levels := 1, width := 600, items := 1 } ∧
    Geometry.InRange { bays := 12, levels := 8, width := 1200, items := 2048 } := by
  unfold Geometry.InRange; decide

/-! ## Shelf order and arithmetic -/

/-- Buckets before ranks: at tolerance 30 the positions 29 and 5 share a bucket, 30 begins the next (R103). -/
theorem test_shelfSequence :
    let at_ (r x : Nat) : Entry := { entry r (r + 10) 1 with placement := some (placed (.shelf 1) (some x) 1) }
    let es := [at_ 1 30, at_ 2 29, at_ 3 5,
      { entry 4 14 1 with placement := some (placed (.shelf 1) none 0) }]
    (es.map (·.rank)).Nodup ∧ shelfSequence es 30 1 = [2, 3, 1] ∧ shelfSequence es 30 2 = [] := by decide

/-- A walk with a rank laid on the leftmost greater top, one that starts a pile, and its read-back (R105,
R106). -/
theorem test_walk :
    ([3, 1, 4, 2, 5] : List Nat).Nodup ∧ (walk [3, 1, 4, 2]).row = [[1, 3], [2, 4]] ∧
    (walk [3, 1, 4, 2, 5]).row = [[1, 3], [2, 4], [5]] ∧ (walk [3, 1, 4, 2, 5]).predOf 5 = some 2 ∧
    (walk [3, 1, 4, 2, 5]).predOf 1 = none ∧ (walk [3, 1, 4, 2, 5]).inOrder = [5, 2, 1] ∧
    (walk [7]).inOrder = [7] ∧ (walk []).inOrder = [] := by decide

/-- A sighting with the moment, scale and frozen mark given. -/
def withMoment (m scale : Nat) (frozen : Bool) : Sighting :=
  { newSighting 5 .foreign with moment := m, front := 1, reads := 65535, scale := scale, frozen := frozen }

/-- A fold that just fits, one that renormalises, one that freezes and one into a frozen sighting (R86 to
R88). -/
theorem test_fold :
    let a := additionsOf .front 1 3
    (∀ x ∈ [withMoment (2 ^ 32 - 4) 0 false, withMoment (2 ^ 32 - 3) 7 false, withMoment (2 ^ 32 - 3) 8 false,
      withMoment 0 8 true], x.moment ≤ 2 ^ 32 - 1 ∧ x.scale ≤ 8 ∧ x.reads ≤ 65535) ∧
    ((withMoment (2 ^ 32 - 4) 0 false).fold a).moment = 2 ^ 32 - 1 ∧
    (withMoment (2 ^ 32 - 3) 7 false).fold a =
      { withMoment (2 ^ 31 - 2 + 3) 8 false with front := 1 } ∧
    (withMoment (2 ^ 32 - 3) 8 false).fold a = withMoment (2 ^ 32 - 3) 8 true ∧
    (withMoment 0 8 true).fold a = withMoment 0 8 true := by decide

/-- The boundary sightings of `test_fold` are in range. -/
theorem witness_fold :
    (withMoment (2 ^ 32 - 4) 0 false).InRange ∧ (withMoment (2 ^ 32 - 3) 7 false).InRange ∧
    (withMoment (2 ^ 32 - 3) 8 false).InRange ∧ (withMoment 0 8 true).InRange := by
  unfold Sighting.InRange; decide

/-- Two FRONT reads at 100 and 201 mm of equal weight and a BACK read: the mean 150.5 rounds up to 151
(R90). -/
theorem test_estimate :
    let reads : List (Antenna × Nat × Nat) := [(.front, 10, 100), (.back, 200, 0), (.front, 10, 201)]
    let x := reads.foldl (fun x r => x.fold (additionsOf r.1 r.2.1 r.2.2)) (newSighting 5 .foreign)
    x.scale = 0 ∧ x.frozen = false ∧ 0 < x.front ∧ x.back = 200 ∧ x.estimate 750 = 151 ∧
    (201 : Nat) ≤ 750 := by decide

/-! ## Monitor and evidence -/

/-- A monitor with RATE_LO enabled at threshold 5, the counter and active state given. -/
def watching (counter : Nat) (active latched : Bool) : State :=
  { State.reset with monitor :=
      { Monitor.start with
        conds := Monitor.start.conds.put .rateLo { threshold := 5, enabled := true, state := false }
        counter := counter, active := active, latched := latched, duration := 1 } }

/-- RATE_LO is true below its threshold and not at it (R130, R131). -/
theorem test_condition_state :
    (([(.rateLo, 4)] : List (CondCode × Nat)).map (·.1)).Nodup ∧
    (((watching 0 false false).evaluate .rate (.shelf 1) 1 [(.rateLo, 4)]).monitor.conds.get .rateLo).state =
      true ∧
    (((watching 0 false false).evaluate .rate (.shelf 1) 1 [(.rateLo, 5)]).monitor.conds.get .rateLo).state =
      false ∧
    ((State.reset.evaluate .bleed (.shelf 1) 1 [(.bleedHi, 1)]).monitor.conds.get .bleedHi).state = true := by
  decide

/-- Each move of the anomaly: below the duration, activation, held while latched, and the end while
unlatched; an evaluation of disabled conditions moves nothing (R134 to R137). -/
theorem test_anomaly :
    let low := [(CondCode.rateLo, 4)]
    let high := [(CondCode.rateLo, 5)]
    let source : SourceRecord := { kind := .rate, conditions := [.rateLo], loc := .shelf 1, sweep := 1 }
    ((watching 0 false false).evaluate .rate (.shelf 1) 1 low).monitor.counter = 1 ∧
    ((watching 0 false false).evaluate .rate (.shelf 1) 1 low).monitor.active = false ∧
    ((watching 1 false false).evaluate .rate (.shelf 1) 1 low).monitor.active = true ∧
    ((watching 1 false false).evaluate .rate (.shelf 1) 1 low).monitor.source = some source ∧
    ((watching 1 false false).evaluate .rate (.shelf 1) 1 low).link.reports = [.anm source] ∧
    ((watching 1 false false).evaluate .rate (.shelf 1) 1 low).panel.sounding = some .longTone ∧
    ((watching 16 true true).evaluate .rate (.shelf 1) 1 high).monitor.active = true ∧
    ((watching 16 true false).evaluate .rate (.shelf 1) 1 low).monitor.counter = 16 ∧
    ((watching 16 true false).evaluate .rate (.shelf 1) 1 high).monitor.active = false ∧
    ((watching 1 false false).evaluate .bleed (.shelf 1) 1 [(.bleedHi, 1)]).monitor.counter = 1 := by decide

/-- An evidence buffer of a mode, phase and number of records. -/
def buffer (mode : EvidenceMode) (phase : EvidencePhase) (n : Nat) : EvidenceBuffer :=
  { EvidenceBuffer.start with mode := mode, phase := phase, records := List.replicate n (stamped 5 60 100) }

/-- A copy offered in each mode, at 63 records and at 64, and the trigger in each phase (R145 to R149). -/
theorem test_evidence :
    let r := stamped 9 60 100
    (buffer .off .none 0).capture r = buffer .off .none 0 ∧
    ((buffer .fill .none 62).capture r).stopped = false ∧ ((buffer .fill .none 63).capture r).stopped = true ∧
    ((buffer .roll .none 63).capture r).overrun = false ∧ ((buffer .roll .none 64).capture r).overrun = true ∧
    ((buffer .roll .none 64).capture r).records.length = 64 ∧
    ((buffer .rollFreeze .rolling 64).capture r).phase = .rolling ∧
    ((buffer .rollFreeze .freezing 62).capture r).phase = .freezing ∧
    ((buffer .rollFreeze .freezing 63).capture r).phase = .frozen ∧
    (buffer .rollFreeze .frozen 64).capture r = buffer .rollFreeze .frozen 64 ∧
    (buffer .armRoll .armed 0).capture r = buffer .armRoll .armed 0 ∧
    ((buffer .armRoll .capturing 0).capture r).records = [r] ∧
    (buffer .rollFreeze .rolling 1).rise.phase = .freezing ∧ (buffer .rollFreeze .frozen 64).fall.phase = .rolling ∧
    (buffer .armRoll .armed 0).rise.phase = .capturing ∧ (buffer .armRoll .capturing 0).fall.phase = .armed := by
  decide

/-- FILL by entry 25: 60 records, an ER of 8, and the next copy appended while STOPPED is clear (R145, R152). -/
theorem test_fillAfterER :
    let s := after (exec .evidenceReadRequest
      (holding { State.reset with evidence := buffer .fill .none 60 } (.er (some 8)) .reply))
    s.evidence.records.length = 52 ∧ s.evidence.stopped = false ∧
    (s.evidence.capture (stamped 9 60 100)).records.length = 53 := by decide

/-! ## The link -/

/-- A link with n reports waiting, nothing being sent and streaming off. -/
def waitingReports (n : Nat) : LinkUnit :=
  { State.reset.link with
    reports := List.replicate n (.wak .call), settings := { Settings.start with streaming := 0 } }

/-- The 48th report joins, the 49th is counted; a CAL that joins is marked (R159). -/
theorem test_reportQueue :
    (waitingReports 47).reports.length = 47 ∧ ((waitingReports 47).queueReport .cal).reports.length = 48 ∧
    ((waitingReports 47).queueReport .cal).callPending = true ∧
    ((waitingReports 48).queueReport .cal).reportsDropped = 1 ∧
    ((waitingReports 48).queueReport .cal).callPending = false := by decide

/-- The fourth refusal joins, the fifth is lost and counted, the count stopping at 255 (R156); a busy transmitter
goes on with its record (R160). -/
theorem test_refusalQueue :
    let refusal : Reply := { word := [asc '?', asc '?'], code := .FM, fields := [] }
    let link := fun n k => { waitingReports 1 with refusals := List.replicate n refusal, refusalsLost := k }
    let late : Reply := { refusal with code := .OV }
    ((link 3 0).queueRefusal late).refusals = [refusal, refusal, refusal, late] ∧
    ((link 3 0).queueRefusal late).refusalsLost = 0 ∧
    (link 4 254).queueRefusal late = link 4 255 ∧ (link 4 255).queueRefusal late = link 4 255 ∧
    let busy := { link 4 0 with sending := some (.report .cal), reply := .filled late }
    busy.sending = some (.report .cal) ∧ busy.pump = busy := by decide

/-- A controller whose transmitter is sending a CAL report. -/
def transmitting (l : LinkUnit) : State := { State.reset with link := { l with sending := some (.report .cal) } }

/-- The order of R160 at the end of a transmission, with FE's last report filling the reserved slot (R161). -/
theorem test_transmissionEnd :
    let ok : Reply := { word := [asc 'T', asc 'S'], code := .OK, fields := [] }
    let q := waitingReports 2
    let link := fun l => (after (exec .transmissionEnd (transmitting l))).link
    (transmitting q).link.sending = some (.report .cal) ∧
    (link { q with reply := .filled ok, refusals := [ok] }).refusals = [ok] ∧
    (link { q with reply := .filled ok, refusals := [ok] }).reply = .empty ∧
    (link { q with refusals := [ok] }).refusals = [] ∧ (link (waitingReports 0)).sending = none ∧
    (∃ r d, CanTake (holding (transmitting q) .qs .reply) r d) ∧
    (link { q with slot := some { req := .qs, disp := .reply }, refusals := [ok] }).sending = none ∧
    (link q).sending = none ∧ (link { q with barrier := some .all }).sending = some (.report (.wak .call)) ∧
    (link { q with allowance := 2, reply := .reserved 0 .reply }).reply = .reserved 1 .reply ∧
    (link { q with allowance := 1, reply := .reserved 1 .perform }).reply = .empty ∧
    (link { q with allowance := 1, reply := .reserved 1 .reply }).reply =
      .filled { word := [asc 'F', asc 'E'], code := .OK, fields := [.num 2, .num 1] } := by
  refine ⟨by decide, by decide, by decide, by decide, by decide, ⟨_, _, witness_canTake ..⟩, ?_⟩
  decide

/-- A check is answered CK, and leaves a dormant-able controller awake (R155). -/
theorem test_check :
    sent (after (exec .dormancyRequest (holding State.reset .dorm .check))) = some (.CK, []) ∧
    (after (exec .dormancyRequest (holding State.reset .dorm .check))).port.dormancy = .awake ∧
    sent (after (exec .endRequest (holding State.reset .es .check))) = some (.SA, [.num 0]) := by decide

/-- A dormant controller, whose receiver is off. -/
def dormant : State := { State.reset with port := { State.reset.port with dormancy := .dormant } }

/-- No event occurs without its occasion: at reset nothing waits, folds, sounds or is being sent (entry 2). -/
theorem test_noOccasion :
    ([.runBegin, .listItemFilingCompletion, .barrierCompletion, .transmissionEnd, .buzzerPatternEnd, .idleExpiry,
      .readFold, .handOff, .commit, .shelfJobCompletion, .runWideJobCompletion, .statusRequest] :
        List Instr).all (fun c => after (exec c State.reset) == State.reset) = true ∧
    after (exec (.tagRead { damaged := true, code := none, strength := none, antenna := none }) dormant) =
      dormant := by decide

/-- At reset no request can be taken, so a command that takes one has no occasion. -/
theorem witness_noOccasion : Takes .runBegin (.rb 1 1 600 1) ∧ ∀ r d, ¬ CanTake State.reset r d :=
  ⟨.inl rfl, fun _ _ h => by have h1 := h.1; cases h1⟩

/-- A controller with a record part stored. -/
def storing (text : List Char) (p : Parser) (s : State) : State :=
  { s with link := { s.link with buffer := text.map asc, parser := p } }

/-- Characters ignored, stored with each next state, and the 81st (R155). -/
theorem test_uartCharacter :
    let link := fun s c => (after (exec (.uartCharacter c) s)).link
    WellFormed (.uartCharacter 13) = true ∧ (link State.reset 13).buffer = [] ∧
    (link State.reset (asc 'r')).parser = .inWord ∧ (link State.reset (asc '1')).parser = .discarding ∧
    (link (storing ['R'] .inWord State.reset) (asc 'B')).buffer = [asc 'R', asc 'B'] ∧
    (link (storing ['R', 'B'] .inWord State.reset) (asc ',')).parser = .inField ∧
    (link (storing ['R', 'B'] .inWord State.reset) (asc 'X')).parser = .discarding ∧
    (link (storing ['R', 'B', ','] .inField State.reset) (asc 'a')).parser = .inField ∧
    (link (storing (List.replicate 79 'A') .inField State.reset) (asc 'A')).buffer.length = 80 ∧
    (link (storing (List.replicate 80 'A') .inField State.reset) (asc 'A')).parser = .discarding ∧
    (link (storing ['R', '1'] .discarding State.reset) (asc 'A')).buffer.length = 2 := by decide

/-- A request waiting in the holding slot while an FE holds the reply slot (R157, R161). -/
def waitingRequest : State :=
  { State.reset with link := { State.reset.link with
      slot := some { req := .qs, disp := .reply }, reply := .reserved 0 .reply } }

/-- The fates of a record: taken with its disposition, unknown, malformed, overrun, over-long and discarded,
and the terminator that comes too early (R155, R156). -/
theorem test_recordCompletion :
    let link := fun s => (after (exec (.recordCompletion .reply) s)).link
    let lost := fun s => match (link s).sending with
      | some (.reply r) => some (r.word, r.code)
      | _ => none
    (link (storing ['t', 's', ',', '0', '1'] .inField State.reset)).slot =
      some { req := .ts 1, disp := .reply } ∧
    (link (storing ['t', 's', ',', '0', '1'] .inField State.reset)).parser = .awaitWord ∧
    lost (storing ['x', 'y'] .inWord State.reset) = some ([asc 'X', asc 'Y'], .UK) ∧
    lost (storing ['T', 'S'] .inWord State.reset) = some ([asc 'T', asc 'S'], .FM) ∧
    lost (storing ['T', 'S', ',', '1'] .inField waitingRequest) = some ([asc 'T', asc 'S'], .OV) ∧
    lost (storing (List.replicate 80 'A') .inField State.reset) = some ([asc 'A', asc 'A'], .FM) ∧
    lost (storing ['7'] .discarding State.reset) = some ([asc '?', asc '?'], .FM) ∧
    (link (storing ['R'] .inWord State.reset)).parser = .discarding ∧
    (link (storing ['R'] .inWord State.reset)).buffer = [asc 'R', asc '?'] ∧
    (link (storing (List.replicate 80 'A') .inWord State.reset)).parser = .discarding := by decide

/-- A record that completes wakes a dormant controller, and WAK is queued; the request is taken first, so its
reply precedes the WAK (R62, R63). -/
theorem test_wakeByRecord :
    let s := after (exec (.recordCompletion .reply) (storing ['D', 'O'] .inWord dormant))
    let t := after (exec .dormancyRequest s)
    s.port.dormancy = .awake ∧ s.link.sending = none ∧ s.link.reports = [.wak .record] ∧
    s.link.slot = some { req := .dorm, disp := .reply } ∧ t.port.dormancy = .dormant ∧
    sent t = some (.OK, []) ∧ (after (exec .transmissionEnd t)).link.sending = some (.report (.wak .record)) := by
  decide

/-- RS and DR discard the WAK of the wake their own record made (R63). -/
theorem test_wakeDiscarded :
    let s := fun w d => after (exec (.recordCompletion d) (storing w .inWord dormant))
    let rs := fun d => (after (exec .softReset (s ['R', 'S'] d))).link
    let dr := fun d => (after (exec .discardRun (s ['D', 'R'] d))).link
    (s ['R', 'S'] .perform).link.reports = [.wak .record] ∧
    (rs .perform).reports = [] ∧ (rs .perform).sending = none ∧ (dr .perform).reports = [] ∧
    (dr .perform).sending = none ∧ (rs .reply).reports = [] ∧
    (after (exec .softReset (s ['R', 'S'] .reply))).port.dormancy = .awake := by decide

/-- Records that spell a request, in either case and with the optional field left out or empty; a required field
missing, one too many, a digit too many and a wrong letter; and a word of no request (R154, R156). -/
theorem test_readRecord :
    let read := fun (t : String) => readRecord (t.toList.map asc)
    read "rb,0C,8,4b0,800" = .request (.rb 12 8 1200 2048) ∧
    read "QE,c,00000000000000Ff" = .request (.qe 67 255) ∧ read "QE,R,7ff" = .request (.qe 82 2047) ∧
    read "QV,A,1" = .request (.qv 10 1 none) ∧ read "QV,A,1," = .request (.qv 10 1 none) ∧
    read "OS,81,n" = .request (.os 129 78) ∧ read "BA,e" = .request (.ba .engine) ∧
    read "RB,1,1,258" = .malformed ∧ read "RO," = .malformed ∧ read "RB,001,1,258,1" = .malformed ∧
    read "QE,R,0001" = .malformed ∧ read "OS,1,X" = .malformed ∧ read "SC,G" = .malformed ∧
    read "SC," = .malformed ∧ read "XY,1" = .unknown := by decide

/-- Records as the statement of the catalogue takes them: one that spells its request, a known word whose fields
spell no request of that word, and an unknown word. -/
theorem witness_records :
    recordText [asc 't', asc 's'] [[asc '7']] = "ts,7".toList.map asc ∧ (∀ f ∈ [[asc '7']], asc ',' ∉ f) ∧
    FieldsSpell [[asc '7']] (.ts 7) ∧
    (∀ r : Request, ['T', 'S'].map asc = r.letters.map asc → ¬ FieldsSpell [] r) ∧
    ∀ r : Request, ['X', 'Y'].map asc ≠ r.letters.map asc := by
  refine ⟨by decide, by decide, .cons ⟨by decide, by decide, by decide⟩ .nil, fun r h hf => ?_, fun r => ?_⟩
  · cases r <;> simp only [Request.letters] at h <;> first | exact absurd h (by decide) | cases hf
  · cases r <;> simp only [Request.letters] <;> decide

/-! ## Requests of the run and the list -/

/-- RB: begun at both ends of its ranges, refused below one and in LOADING (R2). -/
theorem test_runBegin :
    let run := fun s r => after (exec .runBegin (holding s r .reply))
    (run State.reset (.rb 1 1 600 1)).table.run = .loading ∧
    (run State.reset (.rb 12 8 1200 2048)).table.geometry =
      some { bays := 12, levels := 8, width := 1200, items := 2048 } ∧
    sent (run State.reset (.rb 0 8 1200 2048)) = some (.RG, []) ∧
    sent (run loading (.rb 1 1 600 1)) = some (.SA, []) := by decide

/-- A list item taken and being filed. -/
def filing (s : State) (rank code shelf status watch : Nat) : State :=
  let t := holding s (.li rank code shelf status watch) .reply
  { t with link := { t.link with filing := true } }

/-- LOADING with item 5 of shelf 2 filed. -/
def loadingTwo : State :=
  { State.reset with table := { loadingTable with
      entries := [entry 1 5 2], load := { nextRank := 2, filed := 1, prevShelf := some 2 } } }

/-- LOADING with an entry filed meets the invariant of the marks; so does the same run sealed with a DECLARED_MISSING
entry that keeps LENT_SINCE (R31, R121). -/
theorem witness_marks :
    let kept : Entry := { entry 1 5 1 with status := .declaredMissing, lentSince := true }
    loadingTwo.MarksSound ∧ loadingTwo.table.run = .loading ∧
    State.MarksSound { opened with table := { openTable with entries := [kept, entry 2 9 2] } } :=
  ⟨⟨by decide, by decide, by decide, by decide, by decide⟩, rfl,
    ⟨by decide, by decide, by decide, by decide, by decide⟩⟩

/-- The taking of LI keeps the slot; the filings that are accepted, the last one sealing the list (R22,
R23). -/
theorem test_listItem :
    let taken := (after (exec .listItem (holding loading (.li 1 5 1 0 1) .reply))).link
    let run := fun s => after (exec .listItemFilingCompletion s)
    taken.filing = true ∧ taken.slot = some { req := .li 1 5 1 0 1, disp := .reply } ∧
    (run (filing loading 1 5 1 3 1)).table.entries.map (·.watch) = [true] ∧
    sent (run (filing loading 1 5 1 3 1)) = some (.OK, [.num 1, .num 2]) ∧
    sent (run (filing loadingTwo 2 6 2 0 0)) = some (.OK, [.num 2, .num 0]) ∧
    (run (filing loadingTwo 2 6 2 0 0)).table.run = .opened ∧
    (run (filing loadingTwo 2 6 2 0 0)).table.cursor = 1 := by decide

/-- The refusals of a filing, in the order of R21. -/
theorem test_listItem_refused :
    let run := fun s => sent (after (exec .listItemFilingCompletion s))
    run (filing loadingTwo 2 0 2 0 0) = some (.RG, []) ∧ run (filing loadingTwo 2 6 2 4 0) = some (.RG, []) ∧
    run (filing opened 2 6 2 0 0) = some (.SA, [.num 2]) ∧
    run (filing loadingTwo 2 6 3 0 0) = some (.RG, [.num 2]) ∧
    run (filing loadingTwo 1 6 2 0 0) = some (.SQ, [.num 2]) ∧
    run (filing loadingTwo 2 5 2 0 0) = some (.DP, [.num 1]) ∧
    run (filing loadingTwo 2 6 1 0 0) = some (.OR, [.num 2]) := by decide

/-- The table of `closing` before the close, both shelves counted. -/
def counted : State := { closing with table := { closing.table with run := .opened }, order := OrderUnit.cleared }

/-- The run CLOSED. -/
def closed : State := { counted with table := { counted.table with run := .closed } }

/-- CR: closed with every shelf counted, forced, and its refusals (R4). -/
theorem test_runClose :
    let run := fun s f => after (exec .runClose (holding s (.cr f) .reply))
    (run counted 0).order.current = .run ∧ (run counted 0).table.run = .closing ∧
    (run opened 1).table.run = .closing ∧ sent (run opened 0) = some (.US, [.num 1]) ∧
    sent (run opened 2) = some (.RG, []) ∧ sent (run loading 0) = some (.SA, []) ∧
    sent (run sweeping 1) = some (.BY, []) := by decide

/-- The run-wide sequence goes by shelf before bucket and rank: ranks 1 and 9 of shelf 1 stand before ranks 3 and
4 of shelf 2 (R104); the locations of `recounting` are sound. -/
theorem test_runSequence :
    let far := placedEntry (placed (.shelf 1) (some 600) 20) .inOrder
    let entries := { far with rank := 9 } :: recountTable.entries
    recounting.table.shelfNumbers = [1, 2, 3] ∧ runSequence entries 30 recountTable.shelfNumbers = [1, 9, 3, 4] ∧
    runSequence recounting.table.entries 30 recounting.table.shelfNumbers = [1, 3, 4] := by decide

/-- RO: OPEN again from CLOSED, refused elsewhere (R6). -/
theorem test_runReopen :
    (after (exec .runReopen (holding closed .ro .reply))).table.run = .opened ∧
    sent (after (exec .runReopen (holding opened .ro .reply))) = some (.SA, []) := by decide

/-- DR empties the run and names the sweep it ended (R7, R170). -/
theorem test_discardRun :
    let run := fun s => after (exec .discardRun (holding s .dr .reply))
    (run sweeping).table = CountTable.cleared ∧ (run sweeping).sweep.phase = .idle ∧
    sent (run sweeping) = some (.OK, [.num 1, .num 1]) ∧
    sent (run opened) = some (.OK, [.num 0, .absent]) := by decide

/-- RS abandons an open sweep, and leaves one past its hand-off and the run alone (R83, R169). -/
theorem test_softReset :
    let run := fun s => after (exec .softReset (holding s .rs .reply))
    (run sweeping).sweep.phase = .idle ∧ (run sweeping).table.run = .opened ∧
    (run sweeping).table.recordAt (.shelf 1) = LocRecord.cleared ∧
    sent (run sweeping) = some (.OK, [.num 1, .num 1]) ∧ (run committing).sweep.phase = .commit ∧
    sent (run committing) = some (.OK, [.num 0, .absent]) := by decide

/-- SC at both ends of the shelves, and its refusals (R14). -/
theorem test_cursorSet :
    let run := fun s t => after (exec .cursorSet (holding s (.sc t) .reply))
    (run opened 2).table.cursor = 2 ∧ (run opened 1).table.cursor = 1 ∧
    sent (run opened 3) = some (.RG, []) ∧ sent (run loading 2) = some (.SA, []) := by decide

/-- CV names the lowest unswept shelf, or none (R166). -/
theorem test_coverageRequest :
    let run := fun s => sent (after (exec .coverageRequest (holding s .cv .reply)))
    run loading = some (.SA, []) ∧ run opened = some (.OK, [.letter (asc 'N'), .num 1]) ∧
    run counted = some (.OK, [.letter (asc 'Y'), .absent]) := by decide

/-- TS: bit 2 for a foreign entry, bit 5 for a read dropped, selected by the mask (R165). -/
theorem test_testRequest :
    let s : State := { opened with
      port := { opened.port with drops := 1 }
      table := { opened.table with foreign :=
        [{ code := 7, placement := placed (.loose 1) none 0, sighted := 1 }] } }
    let run := fun m => sent (after (exec .testRequest (holding s (.ts m) .reply)))
    run 255 = some (.OK, [.letter (asc 'Y'), .num 36]) ∧ run 32 = some (.OK, [.letter (asc 'Y'), .num 32]) ∧
    run 1 = some (.OK, [.letter (asc 'N'), .num 0]) := by decide

/-- CN: the status alone in LOADING, the mark steps outside it, and the refusals (R30, R31, R118 to R121). -/
theorem test_circulationNotice :
    let run := fun s c st => after (exec .circulationNotice (holding s (.cn c st) .reply))
    let first := fun s c st => (run s c st).table.entries.head?
    sent (run opened 0 0) = some (.RG, []) ∧ sent (run opened 5 4) = some (.RG, []) ∧
    sent (run State.reset 5 0) = some (.SA, []) ∧ sent (run opened 6 1) = some (.NF, []) ∧
    first loadingTwo 5 1 = some { entry 1 5 2 with status := .onLoan } ∧
    first opened 5 0 = some (entry 1 5 1) ∧
    first counted 5 2 = some { closing.table.entries.headD (entry 1 5 1) with
      status := .inTransit, lentSince := true } ∧
    sent (run opened 9 3) = some (.OK, [.num 2, .num 3]) := by decide

/-- An item returned while its shelf is being swept, and after (R120). -/
theorem test_returned :
    let lent := fun s : State => { s with table := { s.table with
      entries := [{ entry 1 5 1 with status := .onLoan, lentSince := true }] } }
    let run := fun s => (after (exec .circulationNotice (holding (lent s) (.cn 5 0) .reply))).table.entries
    run sweeping = [{ entry 1 5 1 with returned := .setDuring }] ∧
    run counted = [{ entry 1 5 1 with returned := .set }] ∧ run opened = [entry 1 5 1] := by decide

/-! ## Queries -/

/-- QE by rank and by code, and its refusals (R28, R29). -/
theorem test_entryQuery :
    let run := fun s l k => sent (after (exec .entryQuery (holding s (.qe l k) .reply)))
    (run opened 82 1).map (fun x => x.2.take 2) = some [.num 1, .num 5] ∧
    (run opened 67 9).map (fun x => x.2.take 2) = some [.num 2, .num 9] ∧
    (run opened 67 9).map (fun x => x.2.drop 15) = some [.num 10, .num 0, .num 0] ∧
    run opened 82 0 = some (.RG, []) ∧ run opened 82 3 = some (.RG, []) ∧ run opened 67 0 = some (.RG, []) ∧
    run opened 88 1 = some (.RG, []) ∧ run State.reset 82 1 = some (.SA, []) ∧
    run loadingTwo 82 2 = some (.NF, []) ∧ run opened 67 6 = some (.NF, []) := by decide

/-- QH of a shelf and of a loose location, in LOADING without the verdict counts, and its refusals (R47,
R48). -/
theorem test_locationQuery :
    let run := fun s n => sent (after (exec .locationQuery (holding s (.qh n) .reply)))
    (run sweeping 1).map (fun x => x.2.take 3) = some [.num 1, .num 1, .num 0] ∧
    (run opened 2).map (fun x => (x.2.drop 10).take 1) = some [.num 1] ∧
    (run opened 136).map (fun x => x.2.take 1) = some [.num 136] ∧
    (run loading 129).map (fun x => x.2.drop 16) = some [.absent, .absent, .absent] ∧
    run opened 0 = some (.RG, [.num 2]) ∧ run opened 3 = some (.RG, [.num 2]) ∧
    run opened 128 = some (.RG, [.num 2]) ∧ run opened 137 = some (.RG, [.num 2]) ∧
    run State.reset 1 = some (.SA, []) := by decide

/-- QV: a page that ends at its count, one that ends at the list's end, and the refusals (R45, R46). -/
theorem test_verdictQuery :
    let run := fun s v r n => sent (after (exec .verdictQuery (holding s (.qv v r n) .reply)))
    (run opened 10 1 (some 0)).map (fun x => (x.1, x.2.take 2)) = some (.OK, [.num 1, .num 2]) ∧
    (run opened 10 1 none).map (fun x => (x.1, x.2.take 2)) = some (.OK, [.num 2, .num 0]) ∧
    (run opened 0 2 none) = some (.OK, [.num 0, .num 0]) ∧
    run opened 11 1 none = some (.RG, []) ∧ run opened 0 0 none = some (.RG, []) ∧
    run loading 0 1 none = some (.SA, []) := by decide

/-- QF: the one foreign entry, then none, and the refusals (R168). -/
theorem test_foreignListQuery :
    let s : State := { opened with table := { openTable with foreign :=
      [{ code := 7, placement := placed (.loose 1) none 0, sighted := 3 }] } }
    let run := fun s i n => sent (after (exec .foreignListQuery (holding s (.qf i n) .reply)))
    let fields := [Field.num 7, .num 129, .absent, .num 0, .num 1, .num 1, .num 3]
    run s 1 none = some (.OK, [.num 1, .num 0] ++ fields) ∧
    run s 1 (some 1) = some (.OK, [.num 1, .num 0] ++ fields) ∧
    run s 2 none = some (.OK, [.num 0, .num 0]) ∧ run s 0 none = some (.RG, []) ∧
    run State.reset 1 none = some (.SA, []) := by decide

/-- QS of a cleared controller begins with the run group of R167 and ends with the link's counts. -/
theorem test_statusRequest :
    let s := sent (after (exec .statusRequest (holding State.reset .qs .reply)))
    s.map (fun x => x.2.take 8) = some [.num 0, .absent, .num 0, .num 1, .num 0, .absent, .num 0, .num 0] ∧
    s.map (fun x => x.2.reverse.take 5) = some [.num 1, .num 0, .num 0, .num 0, .num 0] ∧
    (sent (after (exec .statusRequest (holding opened .qs .reply)))).map (fun x => x.2.take 8) =
      some [.num 2, .num 2, .num 2, .num 0, .num 2, .num 750, .num 1, .num 0] := by decide

/-! ## Opening, ending and abandoning a sweep -/

/-- The controller with its mode switch at LOCAL. -/
def locally (s : State) : State := { s with panel := { s.panel with switch := .localMode } }

/-- OS on a shelf and on a loose location (R67, R69). -/
theorem test_openRequest :
    let run := fun t m => after (exec .openRequest (holding opened (.os t m) .reply))
    (run 2 82).sweep.phase = .opened ∧ (run 2 82).sweep.record.mode = some .recount ∧
    (run 2 82).table.recordAt (.shelf 2) = { LocRecord.cleared with state := .sweeping } ∧
    (run 2 82).sweep.rateWindow = some { start := 0, count := 0 } ∧ (run 2 82).sweep.idleTimer = some 30 ∧
    sent (run 2 82) = some (.OK, [.num 1, .num 2, .letter (asc 'R')]) ∧
    (run 136 78).sweep.record.target = some (.loose 8) ∧ (run 136 78).sweep.rateWindow = none ∧
    sent (run 129 78) = some (.OK, [.num 1, .num 129, .letter (asc 'N')]) ∧
    (run 2 82).panel.sounding = some .oneShort := by decide

/-- The refusals of OS in their order, and the sweep number after 65,535 (R15, R67). -/
theorem test_openRequest_refused :
    let run := fun s t m => sent (after (exec .openRequest (holding s (.os t m) .reply)))
    run (locally State.reset) 2 65 = some (.RG, []) ∧ run (locally State.reset) 2 78 = some (.LC, []) ∧
    run loading 2 78 = some (.SA, [.num 1]) ∧ run sweeping 2 78 = some (.BY, [.num 1, .num 1]) ∧
    run opened 3 78 = some (.RG, [.num 2]) ∧ run opened 137 78 = some (.RG, [.num 2]) ∧
    nextSweepNumber 65534 = 65535 ∧ nextSweepNumber 65535 = 1 := by decide

/-- The record written on the last shelf of a run and on the last loose location is read back, and the others
stand (R11, R12). -/
theorem test_setRecord :
    let r : LocRecord := { LocRecord.cleared with state := .swept, sweepCount := 7, lastSweep := 9 }
    let shelf := recounting.table.setRecord (.shelf 3) r
    let loose := recounting.table.setRecord (.loose 8) r
    recounting.table.hasLoc (.shelf 3) = true ∧ recounting.table.hasLoc (.loose 8) = true ∧
    recounting.table.hasLoc (.shelf 4) = false ∧ recounting.table.hasLoc (.loose 9) = false ∧
    shelf.recordAt (.shelf 3) = r ∧ loose.recordAt (.loose 8) = r ∧ shelf.sweepCount 3 = 7 ∧
    shelf.recordAt (.shelf 2) = recounting.table.recordAt (.shelf 2) ∧ loose.recordAt (.loose 7) = LocRecord.cleared ∧
    loose.recordAt (.shelf 1) = recounting.table.recordAt (.shelf 1) := by decide

/-- ES ends the open sweep into FINALIZE; LOCAL and no open sweep refuse it (R75 to R77). -/
theorem test_endRequest :
    let run := fun s => after (exec .endRequest (holding s .es .reply))
    (run sweeping).sweep.phase = .finalize ∧ (run sweeping).sweep.record.bleed = some 8 ∧
    (run sweeping).sweep.idleTimer = none ∧ sent (run sweeping) = some (.OK, [.num 1]) ∧
    sent (run (locally sweeping)) = some (.LC, []) ∧ sent (run opened) = some (.SA, [.num 0]) ∧
    sent (run ordering) = some (.SA, [.num 4]) := by decide

/-- DO with no sweep, and with one (R61). -/
theorem test_dormancyRequest :
    let run := fun s => after (exec .dormancyRequest (holding s .dorm .perform))
    (run opened).port.dormancy = .dormant ∧ (run sweeping).port.dormancy = .awake ∧
    sent (run sweeping) = some (.SA, [.num 1]) := by decide

/-- AS undoes an open sweep and one in FINALIZE, and is refused elsewhere (R81, R82, R84). -/
theorem test_abandonRequest :
    let run := fun s => after (exec .abandonRequest (holding s .as .reply))
    (run folded).sweep.phase = .idle ∧ (run folded).sweep.sightings = [] ∧
    (run folded).table.entries = openTable.entries ∧
    (run folded).table.recordAt (.shelf 1) = LocRecord.cleared ∧
    (run folded).link.reports = [.swa 1 (some (.shelf 1)) .host .finalize 0 0] ∧
    sent (run sweeping) = some (.OK, [.num 1]) ∧ sent (run opened) = some (.SA, [.num 0]) ∧
    sent (run committing) = some (.BY, [.num 3]) ∧ sent (run ordering) = some (.BY, [.num 4]) ∧
    sweeping.sweep.record.target = some (.shelf 1) := by decide

/-- The idle expiry of an open sweep (R74). -/
theorem test_idleExpiry :
    let s := after (exec .idleExpiry sweeping)
    sweeping.sweep.phase = .opened ∧ s.sweep.phase = .idle ∧
    s.link.sending = some (.report (.swa 1 (some (.shelf 1)) .idle .opened 0 0)) ∧
    s.panel.waiting = [.threeShort] := by decide

/-! ## Monitor, evidence and settings -/

/-- AC takes a clamped threshold, and is refused outside its codes (R139). -/
theorem test_conditionRequest :
    let run := fun c t e => after (exec .conditionRequest (holding State.reset (.ac c t e) .reply))
    (run 6 256 1).monitor.conds.bleedHi = { threshold := 255, enabled := true, state := false } ∧
    sent (run 1 7 0) = some (.OK, [.num 1, .num 7, .num 0, .num 0]) ∧
    sent (run 0 7 0) = some (.RG, []) ∧ sent (run 7 7 0) = some (.RG, []) ∧
    sent (run 1 7 2) = some (.RG, []) ∧ CondCode.missingHi.code = 1 := by decide

/-- AM takes its three values and clears the counter (R140). -/
theorem test_modeRequest :
    let run := fun c l d => after (exec .modeRequest (holding (watching 1 false false) (.am c l d) .reply))
    (run 1 1 16).monitor.combine = .all ∧ (run 1 1 16).monitor.latched = true ∧
    (run 1 1 16).monitor.duration = 15 ∧ (run 1 1 16).monitor.counter = 0 ∧
    sent (run 0 0 15) = some (.OK, [.num 0, .num 0, .num 15]) ∧
    sent (run 2 0 0) = some (.RG, []) ∧ sent (run 0 2 0) = some (.RG, []) := by decide

/-- AQ ends a latched active anomaly, and an unlatched one goes on (R141). -/
theorem test_acknowledgeRequest :
    let run := fun s => after (exec .acknowledgeRequest (holding s .aq .reply))
    (run (watching 16 true true)).monitor.active = false ∧ (run (watching 16 true true)).monitor.counter = 0 ∧
    (run (watching 16 true false)).monitor.active = true ∧
    (sent (run (watching 16 true true))).map (fun x => x.2.take 5) =
      some [.num 1, .num 0, .num 1, .num 1, .num 16] ∧
    (sent (run (watching 0 false true))).map (fun x => x.2.drop 23) =
      some (List.replicate 4 .absent) := by decide

/-- EM in each of the five modes by the trigger as it stands, and beyond them (R151). -/
theorem test_evidenceModeRequest :
    let run := fun s m w => after (exec .evidenceModeRequest (holding s (.em m w) .reply))
    (run State.reset 3 64).evidence = { EvidenceBuffer.start with
      mode := .rollFreeze, phase := .rolling, watermark := 63 } ∧
    (run (watching 16 true false) 3 0).evidence.phase = .freezing ∧
    (run (watching 16 true false) 4 0).evidence.phase = .capturing ∧
    (run State.reset 4 0).evidence.phase = .armed ∧ (run State.reset 1 0).evidence.phase = .none ∧
    sent (run State.reset 2 63) = some (.OK, [.num 2, .num 63]) ∧
    sent (run State.reset 5 0) = some (.RG, []) ∧ EvidenceMode.rollFreeze.code = 3 := by decide

/-- ER removes the oldest records and gives the flags as they then stand (R152). -/
theorem test_evidenceReadRequest :
    let s : State := { State.reset with evidence := { buffer .roll .none 2 with overrun := true } }
    let run := fun s n => after (exec .evidenceReadRequest (holding s (.er n) .reply))
    let record := [Field.num 5, .num 60, .letter (asc 'F'), .num 100, .num 1, .num 1]
    sent (run s (some 1)) =
      some (.OK, [.num 1, .num 1, .num 0, .num 0, .num 0, .num 1] ++ record) ∧
    (run s none).evidence.records = [] ∧ (run s none).evidence.overrun = false ∧
    (run State.reset (some 0)).evidence = EvidenceBuffer.start := by decide

/-- A setting after an ST of an id and value taken by a command. -/
def setBy (c : Instr) (id v : Nat) : Settings := (after (exec c (holding State.reset (.st id v) .reply))).link.settings

/-- Each setting at a value beyond one end of its range, and an id that names none (R163). -/
theorem test_settings :
    (setBy .stStrengthFloor 1 255).floor = 254 ∧ (setBy .stBleedRatio 2 0).bleed = 1 ∧
    (setBy .stOrderTolerance 3 201).tolerance = 200 ∧ (setBy .stIdleLimit 4 4).idleLimit = 5 ∧
    (setBy .stAttentionMode 5 3).attnMode = 2 ∧ (setBy .stAttentionEnables 6 4).attnEnable = 3 ∧
    (setBy .stStreaming 7 2).streaming = 1 ∧ (setBy .stReadoutSelection 8 4).readout = 3 ∧
    sent (after (exec .stIdleLimit (holding State.reset (.st 9 1) .reply))) = some (.RG, []) ∧
    sent (after (exec .stReadoutSelection (holding State.reset (.st 0 1) .perform))) = some (.RG, []) ∧
    setBy .stIdleLimit 3 50 = Settings.start := by decide

/-! ## FE and BA -/

/-- A controller with streaming off and n reports waiting. -/
def reporting (n : Nat) : State := { State.reset with link := waitingReports n }

/-- FE begins its first report at once and reserves the slot; with none waiting it replies (R161). -/
theorem test_fetchRequest :
    let run := fun n k d => (after (exec .fetchRequest (holding (reporting n) (.fe k) d))).link
    (run 3 (some 2) .reply).sending = some (.report (.wak .call)) ∧
    (run 3 (some 2) .reply).allowance = 1 ∧ (run 3 (some 2) .reply).reply = .reserved 1 .reply ∧
    (run 3 (some 0) .perform).reply = .empty ∧ (run 20 none .reply).allowance = 15 ∧
    (run 0 none .reply).sending = some (.reply
      { word := [asc 'F', asc 'E'], code := .OK, fields := [.num 0, .num 0] }) ∧
    (run 3 none .check).reports.length = 3 := by decide

/-- BA completes at once while nothing is closing, and waits otherwise (R164). -/
theorem test_barrierRequest :
    let run := fun s b d => after (exec .barrierRequest (holding s (.ba b) d))
    sent (run sweeping .engine .reply) = some (.OK, [.num 1, .num 1]) ∧
    sent (run (reporting 0) .all .reply) = some (.OK, [.num 0, .absent]) ∧
    (run (reporting 1) .all .reply).link.barrier = some .all ∧
    (run finalizing .engine .reply).link.barrier = some .engine ∧
    (run closing .engine .reply).link.barrier = some .engine ∧
    (run finalizing .engine .reply).link.slot = some { req := .ba .engine, disp := .reply } ∧
    sent (run finalizing .engine .check) = some (.CK, []) := by decide

/-- A barrier waiting in the slot. -/
def barred (s : State) (b : BarrierScope) (d : Terminator) : State :=
  let t := holding s (.ba b) d
  { t with link := { t.link with barrier := some b } }

/-- The completion of a waiting barrier, which does not come while its condition fails (R164). -/
theorem test_barrierCompletion :
    let run := fun s b => after (exec .barrierCompletion (barred s b .reply))
    sent (run opened .engine) = some (.OK, [.num 0, .absent]) ∧ (run opened .engine).link.slot = none ∧
    (run opened .engine).link.barrier = none ∧
    run (reporting 1) .all = barred (reporting 1) .all .reply ∧
    run closing .engine = barred closing .engine .reply := by decide

/-- The shelf job that ends a sweep, and the run-wide job, make an ENGINE barrier due: with the transmitter free
and streaming on, the barrier's reply is begun first, and SWD or RND waits behind it (R160, R164). -/
theorem test_barrierReplyFirst :
    let swept := after (exec .shelfJobCompletion (barred ordering .engine .reply))
    let shut := after (exec .runWideJobCompletion (barred closing .engine .reply))
    let replied := fun s => after (exec .barrierCompletion s)
    swept.dueBarrier = some { req := .ba .engine, disp := .reply } ∧
    swept.link.sending = none ∧ swept.link.reports = [.swd ordering.sweep.record] ∧
    sent (replied swept) = some (.OK, [.num 0, .absent]) ∧
    (replied swept).link.reports = [.swd ordering.sweep.record] ∧
    shut.link.sending = none ∧ sent (replied shut) = some (.OK, [.num 0, .absent]) ∧
    (after (exec .transmissionEnd (replied shut))).link.sending =
      some (.report (.rnd 2 [1, 0, 0, 0, 0, 0, 0, 0, 1, 0, 0])) := by decide

/-- An ALL barrier is not due while a report waits, and is once the last one is being sent; a transmission that
ends meanwhile begins nothing before the completion (R160, R164). -/
theorem test_barrierDue :
    let all := fun n => barred (transmitting (waitingReports n)) .all .reply
    let ended := fun n => after (exec .transmissionEnd (all n))
    (all 1).dueBarrier = none ∧ (ended 1).link.reports = [] ∧
    (ended 1).link.sending = some (.report (.wak .call)) ∧
    (ended 1).dueBarrier = some { req := .ba .all, disp := .reply } ∧
    (all 0).dueBarrier = some { req := .ba .all, disp := .reply } ∧ (ended 0).link.sending = none ∧
    (barred closing .engine .reply).dueBarrier = none := by decide

/-! ## Port and panel -/

/-- A sound FRONT read of item 5 at strength 60. -/
def soundRead5 : DeliveredRead :=
  { damaged := false, code := some 5, strength := some 60, antenna := some .front }

/-- A sweep with n reads waiting in the read queue. -/
def queueing (n : Nat) : State :=
  { sweeping with port := { sweeping.port with queue := List.replicate n (stamped 5 60 100) } }

/-- A read is accepted below 32 waiting and dropped at 32; without a sweep it is discarded, and a bad one
counted (R49 to R53). -/
theorem test_tagRead :
    let run := fun s r => after (exec (.tagRead r) s)
    sweeping.port.dormancy = .awake ∧ (run (queueing 31) soundRead5).port.queue.length = 32 ∧
    (run (queueing 31) soundRead5).sweep.record.facts.accepted = 1 ∧
    (run (queueing 31) soundRead5).sweep.rateWindow = some { start := 0, count := 1 } ∧
    (run (queueing 0) soundRead5).port.queue = [stamped 5 60 0] ∧
    (run (queueing 32) soundRead5).port.drops = 1 ∧
    (run (queueing 32) soundRead5).sweep.record.facts.dropped = 1 ∧
    run opened soundRead5 = opened ∧ (run opened { soundRead5 with code := some 0 }).port.drops = 1 ∧
    (run opened { soundRead5 with antenna := some .other }).port.drops = 1 ∧
    (run opened { soundRead5 with damaged := true }).port.drops = 1 := by decide

/-- A read that carries the buffer past its watermark queues EVW (R150). -/
theorem test_watermark :
    let s : State := { sweeping with evidence := { buffer .roll .none 0 with watermark := 1 } }
    let one := after (exec (.tagRead soundRead5) s)
    one.link.sending = none ∧
    (after (exec (.tagRead soundRead5) one)).link.sending =
      some (.report (.evw 2 1 .roll false false false)) := by decide

/-- A sweep with its position counter at x. -/
def at_ (x : Nat) : State := { sweeping with port := { sweeping.port with position := x } }

/-- The counter moves, clamps at P_max with OVERTRAVEL and at 0 without, and a window closes at 100 (R56,
R57, R72). -/
theorem test_encoderCount :
    let run := fun s d => after (exec (.encoderCount d) s)
    (run (at_ 749) .forward).port.position = 750 ∧ (run (at_ 749) .forward).sweep.record.facts.overtravel = false ∧
    (run (at_ 750) .forward).port.position = 750 ∧ (run (at_ 750) .forward).sweep.record.facts.overtravel = true ∧
    (run (at_ 0) .backward).port.position = 0 ∧ (run (at_ 0) .backward).sweep.record.facts.overtravel = false ∧
    (run (at_ 99) .forward).sweep.rateWindow = some { start := 100, count := 0 } ∧
    (run (at_ 98) .forward).sweep.rateWindow = some { start := 0, count := 0 } ∧
    run opened .forward = opened ∧ sweeping.sweep.record.target = some (.shelf 1) ∧
    sweeping.table.geometry = some geometry ∧
    (run (opened.openSweep (.loose 1) .new) .forward).port.position = 0 ∧
    (run { at_ 5 with sweep := { sweeping.sweep with rateWindow := none } } .backward).port.position = 4 := by
  decide

/-- The trigger opens on the cursor shelf, ends an open sweep, and beeps elsewhere (R68, R75, R173). -/
theorem test_triggerPress :
    let run := fun s => after (exec .triggerPress s)
    (run (locally opened)).sweep.record.target = some (.shelf 1) ∧
    (run (locally opened)).sweep.record.mode = some .new ∧
    (run (locally counted)).sweep.record.mode = some .recount ∧
    (run (locally State.reset)).panel.sounding = some .twoShort ∧
    (run (locally sweeping)).sweep.phase = .finalize ∧ (run (locally finalizing)).panel.waiting = [.twoShort] ∧
    (run opened).panel.sounding = some .twoShort ∧ (run dormant).port.dormancy = .awake ∧
    (run dormant).link.sending = some (.report (.wak .trigger)) := by decide

/-- CALL queues CAL once and wakes a dormant controller (R62, R174). -/
theorem test_callPress :
    let once := after (exec .callPress (reporting 0))
    let twice := after (exec .callPress once)
    once.link.reports = [.cal] ∧ once.link.callPending = true ∧ twice.link.reports = [.cal] ∧
    (after (exec .callPress dormant)).port.dormancy = .awake ∧
    (after (exec .callPress State.reset)).link.sending = some (.report .cal) ∧
    (after (exec .callPress State.reset)).link.callPending = false := by decide

/-- The switch moves to either position, and nothing else changes (R172). -/
theorem test_modeSwitchChange :
    after (exec (.modeSwitchChange .localMode) sweeping) = locally sweeping ∧
    after (exec (.modeSwitchChange .remote) (locally sweeping)) = sweeping := by decide

/-- The buzzer's waiting list at its four places, and the end of a pattern (R176). -/
theorem test_buzzer :
    let p : Panel := { switch := .remote, sounding := some .longTone, waiting := List.replicate 3 .oneShort }
    (p.buzz .twoShort).waiting.length = 4 ∧ ((p.buzz .twoShort).buzz .twoShort) = p.buzz .twoShort ∧
    ({ p with sounding := none }.buzz .twoShort).sounding = some .twoShort ∧
    (after (exec .buzzerPatternEnd { State.reset with panel := p })).panel =
      { p with sounding := some .oneShort, waiting := List.replicate 2 .oneShort } ∧
    (after (exec .buzzerPatternEnd { State.reset with panel := { p with waiting := [] } })).panel.sounding =
      none := by decide

/-- The attention lines in each mode, and the readout in each selection (R162, R175). -/
theorem test_outputs :
    let line := fun m e n => { waitingReports n with settings := { Settings.start with attnMode := m, attnEnable := e } }
    let show_ := fun (s : State) n => { s with link := { s.link with settings := { Settings.start with readout := n } } }
    (line 0 3 1).attnA = false ∧ (line 1 1 0).attnA = false ∧ (line 1 1 1).attnA = true ∧
    (line 1 2 0).attnA = true ∧ (line 2 3 0).attnA = false ∧ (line 2 3 0).attnB = true ∧
    (line 2 1 0).attnB = false ∧
    State.reset.readout = List.replicate 4 (asc '-') ∧
    opened.readout = [asc ' ', asc ' ', asc ' ', asc '1'] ∧
    (show_ folded 1).readout = [asc ' ', asc ' ', asc ' ', asc '2'] ∧
    (show_ opened 2).readout = List.replicate 4 (asc '-') ∧
    (show_ ordering 2).readout = [asc ' ', asc ' ', asc ' ', asc '0'] ∧
    (show_ State.reset 3).readout = List.replicate 4 (asc '-') ∧
    (show_ opened 3).readout = [asc ' ', asc ' ', asc ' ', asc '2'] ∧
    opened.greenLamp = false ∧ sweeping.greenLamp = true ∧ ordering.greenLamp = true ∧
    (watching 1 true false).redLamp = true ∧ (watching 1 false false).redLamp = false ∧
    State.reset.port.receiverPowered = true ∧ dormant.port.receiverPowered = false := by decide

/-! ## Fold, hand-off, commit and order -/

/-- A read of a sighted code, of a new one, and of a new one at the full table (R71). -/
theorem test_readFold :
    let run := fun s => after (exec .readFold s)
    let once := run (queueing 2)
    once.sweep.sightings.map (fun x => (x.kind, x.moment, x.front, x.reads)) = [(.listed 1, 2000, 20, 1)] ∧
    once.table.entries.map (·.inSweep) = [true, false] ∧ once.port.queue.length = 1 ∧
    (run once).sweep.sightings.map (fun x => (x.moment, x.reads)) = [(4000, 2)] := by decide

/-- A full sighting table without the code of a read: the read is dropped, and PARTIAL set (R71). -/
theorem test_readFold_full (s : State) (n : Nat) (hn : 192 ≤ n)
    (h : s.sweep.sightings = List.replicate n (newSighting 7 .foreign)) :
    (s.foldRead (stamped 5 60 0)).sweep.record = s.sweep.record.dropNewCode ∧
    (∀ x ∈ s.sweep.sightings, x.code ≠ 5) ∧ 192 ≤ s.sweep.sightings.length := by
  have hs : isSighted (stamped 5 60 0).code s.sweep.sightings = false := by
    simp [isSighted, h, stamped, newSighting]
  have hl : ¬ s.sweep.sightings.length < Config.sightingTableSize := by simp [h, Config.sightingTableSize, hn]
  refine ⟨by rw [State.foldRead, hs]; simp [hl], ?_, by simp [h, hn]⟩
  simp [h, newSighting]

/-- The hand-off of `folded` delivers `commitOf`; a sighting heard eight times as strongly behind is
across-aisle only beyond the ratio (R77, R78, R89). -/
theorem test_handOff :
    let s := after (exec .handOff folded)
    let x : Sighting := { newSighting 5 .foreign with front := 1, back := 1 }
    folded.sweep.phase = .finalize ∧ folded.port.queue = [] ∧ folded.sweep.record.target = some (.shelf 1) ∧
    folded.sweep.record.mode = some .new ∧ folded.sweep.record.bleed = some 8 ∧
    folded.table.pMax = some 750 ∧ s.sweep.phase = .commit ∧ s.sweep.inFlight = some commitOf ∧
    s.sweep.record.sighted = 2 ∧ x.acrossAisle 8 = false ∧ x.acrossAisle 7 = true := by decide

/-- The commit of `committing`: placements, standings and marks, the record, the cursor and the first job
(R93 to R101, R13). -/
theorem test_commit :
    let s := after (exec .commit committing)
    s.table.entries = [{ entry 1 5 1 with
      placement := some (placed (.shelf 1) (some 100) 20), shelfStanding := .pending },
      { entry 2 9 2 with watch := true }] ∧
    s.table.foreign = [{ code := 7, placement := placed (.shelf 1) (some 200) 10, sighted := 1 }] ∧
    s.table.recordAt (.shelf 1) =
      { state := .swept, sweepCount := 1, lastSweep := 1, facts := SweepFacts.cleared } ∧
    s.table.cursor = 2 ∧ s.order.jobs = [1] ∧ s.order.current = .shelf 1 ∧ s.sweep.phase = .order ∧
    s.sweep.record.outcomes = { Outcomes.zero with newPlacements := 2, foreign := 1 } := by decide

/-- A commit with no offers completes ORDER at once; a loose target leaves the cursor (R13, R79, R107). -/
theorem test_commit_empty :
    let of := fun l => { committing with sweep := { committing.sweep with
      inFlight := some { commitOf with target := l, offers := [] } } }
    let run := fun l => after (exec .commit (of l))
    (run (.shelf 1)).order = OrderUnit.cleared ∧ (run (.shelf 1)).sweep.phase = .idle ∧
    (run (.shelf 1)).table.cursor = 2 ∧ (run (.shelf 2)).table.cursor = 1 ∧
    (run (.loose 1)).table.cursor = committing.table.cursor ∧
    counted.table.nextCursor 2 = 0 := by decide

/-- The strength rule weighs an offer against a placement on the target or a neighbour only (R95). -/
theorem test_strengthRule :
    let wins := fun t e p => offerWins (some geometry) t e p
    wins (.shelf 1) 30 (placed (.shelf 2) (some 5) 30) = false ∧
    wins (.shelf 1) 31 (placed (.shelf 2) (some 5) 30) = true ∧
    wins (.shelf 1) 30 (placed (.shelf 1) (some 5) 30) = false ∧
    wins (.shelf 1) 0 (placed (.loose 1) none 0) = true ∧
    wins (.loose 1) 0 (placed (.shelf 2) (some 5) 30) = true := by decide

/-- A work of a commit with n foreign entries of code 7 on shelf 2. -/
def foreignWork (n e : Nat) : CommitWork :=
  { openTable.commitStart with
    foreign := List.replicate n { code := 7, placement := placed (.shelf 2) (some 5) e, sighted := 255 } }

/-- A foreign offer kept, moved in and added; and the vacate (R94, R98). -/
theorem test_foreignOffers :
    let offer := fun c : ItemCode => ({ code := c, kind := .foreign, position := none, strength := 0, reads := 1 } : Offer)
    let run := fun w c => CommitWork.applyOffer (some geometry) commitOf [] w (offer c)
    (offer 7).kind = .foreign ∧
    (run (foreignWork 1 0) 7).outcomes = { Outcomes.zero with keptElsewhere := 1, foreign := 1, heard := 1 } ∧
    (run (foreignWork 1 0) 7).foreign.map (·.sighted) = [255] ∧
    (CommitWork.applyOffer none commitOf [] (foreignWork 1 9) (offer 7)).outcomes.movedIn = 1 ∧
    (CommitWork.applyOffer (some geometry) commitOf [] (foreignWork 1 0)
      { offer 7 with strength := 1 }).outcomes.movedIn = 1 ∧
    (run (foreignWork 2 0) 8).foreign.length = 3 ∧
    ((foreignWork 2 0).vacate (.shelf 2)).foreign = [] ∧
    ((foreignWork 2 0).vacate (.shelf 2)).affected = [.shelf 2] := by decide

/-- A foreign list of fewer than 256 entries takes a new one, and a full one drops it (R98). -/
theorem test_foreignFull (n : Nat) :
    let offer : Offer := { code := 8, kind := .foreign, position := none, strength := 0, reads := 1 }
    let y := (foreignWork n 0).applyForeign none commitOf offer
    (∀ f ∈ (foreignWork n 0).foreign, f.code ≠ offer.code) ∧ (foreignWork n 0).foreign.length = n ∧
    (n < 256 → y.foreign.length = n + 1) ∧ (256 ≤ n → y.overflow = 1) := by
  refine ⟨by simp [foreignWork], by simp [foreignWork], fun h => ?_, fun h => ?_⟩
  · simp [CommitWork.applyForeign, foreignWork, Config.foreignListSize, h]
  · have : ¬ n < 256 := by omega
    simp [CommitWork.applyForeign, foreignWork, Config.foreignListSize, this]; rfl

/-- The job of shelf 1 completes: IN, SWD, and IDLE (R79, R80, R109). -/
theorem test_shelfJobCompletion :
    let s := after (exec .shelfJobCompletion ordering)
    ordering.order.current = .shelf 1 ∧ ordering.order.jobs = [1] ∧ ordering.order.piles = walk [1] ∧
    s.table.entries.map (·.shelfStanding) = [.inOrder, .none] ∧ s.sweep.phase = .idle ∧
    s.order = OrderUnit.cleared ∧ s.link.sending = some (.report (.swd ordering.sweep.record)) := by decide

/-- A job with another behind it begins that one; a loose target evaluates no shelf condition (R79, R109). -/
theorem test_shelfJobs :
    let two : State := { ordering with order := { ordering.order with jobs := [1, 2] } }
    let loose : State := { ordering with sweep := { ordering.sweep with
      record := { ordering.sweep.record with target := some (.loose 1) } } }
    (after (exec .shelfJobCompletion two)).order.current = .shelf 2 ∧
    (after (exec .shelfJobCompletion two)).sweep.phase = .order ∧
    (after (exec .shelfJobCompletion loose)).monitor = ordering.monitor ∧
    (after (exec .shelfJobCompletion loose)).sweep.phase = .idle := by decide

/-- The run-wide job completes: run standings, CLOSED and RND (R5, R112). -/
theorem test_runWideJobCompletion :
    let s := after (exec .runWideJobCompletion closing)
    closing.order.current = .run ∧ closing.order.piles = walk [1] ∧ closing.table.items = some 2 ∧
    s.table.run = .closed ∧ s.table.entries.map (·.runStanding) = [.inOrder, .none] ∧
    s.link.sending = some (.report (.rnd 2 [1, 0, 0, 0, 0, 0, 0, 0, 1, 0, 0])) := by decide

/-! ## Text -/

/-- Digits, letters, capitals and hexadecimal values at each end of their ranges (R154, R155; ASCII). -/
theorem test_characters :
    let c := fun n : Nat => BitVec.ofNat 8 n
    ([47, 48, 57, 58].map (fun n => isDigit (c n)) = [false, true, true, false]) ∧
    ([64, 65, 90, 91, 96, 97, 122, 123].map (fun n => isLetter (c n)) =
      [false, true, true, false, false, true, true, false]) ∧
    ([96, 97, 122, 123].map (fun n => upper (c n)) = [96, 65, 90, 123]) ∧
    ([47, 48, 57, 58, 64, 65, 70, 71, 96, 97, 102, 103].map (fun n => hexValue (c n)) =
      [none, some 0, some 9, none, none, some 10, some 15, none, none, some 10, some 15, none]) := by decide

/-- Numbers on the link, and the text of a reply and of a report (R154, R158, R159). -/
theorem test_text :
    hexText 0 = [asc '0'] ∧ hexText 0x1AF = [asc '1', asc 'A', asc 'F'] ∧
    readHexFrom 0 [asc '0', asc '1', asc 'a', asc 'F'] = some 0x1AF ∧
    Outbound.text (.reply { word := [asc 'S', asc 'C'], code := .OK, fields := [.num 16] }) =
      "*SC,OK,10\r\n".toList.map asc ∧
    Outbound.text (.report (.wak .call)) = "!WAK,C\r\n".toList.map asc ∧
    Outbound.text (.report (.swa 26 (some (.loose 1)) .idle .finalize 255 0)) =
      "!SWA,1A,81,I,2,FF,0\r\n".toList.map asc ∧
    Outbound.text (.report (.anm
      { kind := .shelf, conditions := [.missingHi, .bleedHi], loc := .shelf 9, sweep := 1 })) =
      "!ANM,S,21,9,1\r\n".toList.map asc := by decide

end Sys2Proof.Tests
end

section
/-! SUPPORT. What a step can do, said once: the inversion of a step into the effect of a command and the
transmitter's beginning, for the proofs of the invariants. -/

namespace Sys2Proof.Machine

/-! ## The effect of a command -/

/-- Nothing of a request stands in the link's slots: the next owner's decision is free to be answered. -/
structure LinkUnit.Free (l : LinkUnit) : Prop where
  slot    : l.slot = none
  reply   : l.reply = .empty
  filing  : l.filing = false
  barrier : l.barrier = none

/-- The holding slot frees for the answer to a request: at its taking, at the end of a filing, or at the
completion of a barrier that waited (R157, R23, R164). -/
inductive Frees (s : State) : State → Prop
  | taken (r : Request) (d : Terminator) (h : CanTake s r d) : Frees s s.freeSlot
  | filed (r c t st w : Nat) (d : Terminator) (hf : s.link.filing = true)
      (hs : s.link.slot = some { req := .li r c t st w, disp := d }) : Frees s s.endFiling
  | barrier (held : Held) (h : s.dueBarrier = some held) :
      Frees s { s with link := { s.link with slot := none, barrier := none } }

/-- What an accepted request does to the state in which the slot has been freed, with what its checks leave
true. -/
inductive Performs (s : State) : State → Prop
  | nothing : Performs s s
  | runBegin (g : Geometry) (hg : g.InRange) (hr : s.table.run = .empty) :
      Performs s { s with table := s.table.beginRun g }
  | listItem (rank shelf : Nat) (item : ItemCode) (st : CircStatus) (watch : Bool) (h0 : item ≠ 0)
      (hr : s.table.run = .loading) (ht : s.table.isShelf shelf = true)
      (hk : rank = s.table.load.nextRank) (hc : s.table.byCode item = none)
      (hp : s.table.load.prevShelf.getD 0 ≤ shelf) :
      Performs s { s with
        table := s.table.file ((s.table.geometry.map Geometry.items).getD 0)
          (fileEntry rank item shelf st watch) }
  | runClose (hr : s.table.run = .opened) (hp : s.sweep.phase = .idle) : Performs s s.beginClose
  | runReopen (hr : s.table.run = .closed) : Performs s { s with table := s.table.reopen }
  | discardRun : Performs s s.discardRun
  | cursorSet (t : Nat) (ht : s.table.isShelf t = true) :
      Performs s { s with table := { s.table with cursor := t } }
  | notice (item : ItemCode) (st : CircStatus) (hr : s.table.run ≠ .empty) :
      Performs s { s with table := s.table.notice s.sweep item st }
  | openSweep (target : Loc) (mode : SweepMode) (hr : s.table.run = .opened) (hp : s.sweep.phase = .idle)
      (ht : s.table.hasLoc target = true) : Performs s (s.openSweep target mode)
  | endSweep (hp : s.sweep.phase = .opened) : Performs s s.endSweep
  | abandon (r : Report) (hp : s.sweep.phase = .opened ∨ s.sweep.phase = .finalize) :
      Performs s (s.abandonSweep.report r)
  | dormancy (hp : s.sweep.phase = .idle) :
      Performs s { s with port := { s.port with dormancy := .dormant } }
  | condition (c : CondCode) (threshold : Nat) (enabled : Bool) (ht : threshold ≤ 255) :
      Performs s { s with
        monitor := { s.monitor with
          conds := s.monitor.conds.put c
            { s.monitor.conds.get c with threshold := threshold, enabled := enabled } } }
  | combine (c : CombineMode) (latched : Bool) (duration : Nat) (hd : duration ≤ 15) :
      Performs s { s with monitor :=
        { s.monitor with combine := c, latched := latched, duration := duration, counter := 0 } }
  | acknowledge : Performs s s.acknowledge
  | evidenceMode (m : EvidenceMode) (watermark : Nat) (hw : watermark ≤ 63) :
      Performs s { s with evidence :=
        { records := [], mode := m, phase := m.firstPhase s.monitor.active, watermark := watermark,
          stopped := false, overrun := false } }
  | evidenceRead (count : Nat) : Performs s { s with evidence := s.evidence.remove count }
  | setting (put : Settings → Settings) (hp : ∀ x : Settings, x.InRange → (put x).InRange) :
      Performs s { s with link := { s.link with settings := put s.link.settings } }
  | softReset : Performs s s.softReset

/-- What a command does before the transmitter begins what it may. A press and a record that completes act on
the state after their wake. -/
inductive Effect (s : State) : State → Prop
  | replied (u : State) (w : RequestWord) (code : StatusCode) (fields : List Field) (hf : Frees s u) :
      Effect s (u.place w code fields)
  | performed (u a : State) (hf : Frees s u) (ha : Performs u a) : Effect s a
  | performedReplied (u a : State) (w : RequestWord) (fields : List Field) (hf : Frees s u)
      (ha : Performs u a) : Effect s (a.place w .OK fields)
  | filing (r c t st w : Nat) (d : Terminator) (h : CanTake s (.li r c t st w) d) :
      Effect s { s with link := { s.link with filing := true } }
  | barrierWaits (scope : BarrierScope) (d : Terminator) (h : CanTake s (.ba scope) d) :
      Effect s { s with link := { s.link with barrier := some scope } }
  | fetch (count : Option Nat) (d : Terminator) (h : CanTake s (.fe count) d) :
      Effect s (s.freeSlot.fetch count d)
  | character (c : Byte) : Effect s (s.receive c)
  | transmissionEnd : Effect s { s with link := { s.link with sending := none } }
  | read (r : DeliveredRead) : Effect s (s.arriveRead r)
  | shelfCount (d : Direction) (t : Nat) (hp : s.sweep.phase = .opened)
      (ht : s.sweep.record.target = some (.shelf t)) : Effect s (s.moveCounter d (.shelf t))
  | looseCount (hp : s.sweep.phase = .opened) : Effect s s.restartIdle
  | trigger : Effect s (s.wake .trigger).pressTrigger
  | call : Effect s (s.wake .call).pressCall
  | switch (p : SwitchPosition) : Effect s { s with panel := { s.panel with switch := p } }
  | patternEnd : Effect s { s with panel :=
      { s.panel with sounding := s.panel.waiting.head?, waiting := s.panel.waiting.tail } }
  | idleExpiry (hp : s.sweep.phase = .opened) :
      Effect s ((s.abandonSweep.report (s.sweep.swa .idle)).buzz .threeShort)
  | fold (r : StampedRead) (rest : List StampedRead) (hp : s.sweep.phase.folds = true)
      (hq : s.port.queue = r :: rest) :
      Effect s (({ s with port := { s.port with queue := rest } }).foldRead r)
  | handOff (target : Loc) (mode : SweepMode) (bleed : Nat) (hp : s.sweep.phase = .finalize)
      (hq : s.port.queue = []) (ht : s.sweep.record.target = some target) :
      Effect s (s.handOff target mode bleed)
  | commit (c : Commit) (hp : s.sweep.phase = .commit) (hc : s.sweep.inFlight = some c) :
      Effect s (s.commitEvent c)
  | shelfJob (t : Nat) (h : s.order.current = .shelf t) : Effect s s.completeShelfJob
  | runJob (h : s.order.current = .run) : Effect s s.completeRunJob

/-- A command changes nothing, applies the supply, or has its effect and then a free transmitter begins. -/
def Answers (s t : State) : Prop :=
  t = s ∨ (∃ strap switch, t = State.powerOn strap switch s.pending) ∨ ∃ u, Effect s u ∧ t = u.pump

/-! ## The requests -/

/-- A request that is taken: its owner decides, and the decision is acted on. -/
theorem takeRequest_cases {decide : Request → State → Option Decision} {s t : State}
    (h : takeRequest decide s = .next t) :
    t = s ∨ ∃ r d x, CanTake s r d ∧ decide r s.freeSlot = some x ∧
      t = (answer r.word d s.freeSlot x).pump := by
  by_cases hn : ∀ r d, CanTake s r d → decide r s.freeSlot = none
  · rw [takeRequest_none hn] at h
    cases h
    exact .inl rfl
  · push Not at hn
    obtain ⟨r, d, hc, hd⟩ := hn
    obtain ⟨x, hx⟩ := Option.ne_none_iff_exists'.mp hd
    rw [takeRequest_taken hc hx] at h
    cases h
    exact .inr ⟨r, d, x, hc, hx, rfl⟩

/-- A decision acted on is a reply, or the performance of the request with or without one. -/
theorem answer_effect {s u : State} {w : RequestWord} {d : Terminator} {x : Decision} (hf : Frees s u)
    (hx : ∀ a f, x = .accept a f → Performs u a) : Effect s (answer w d u x) := by
  cases x with
  | refuse code fields => exact .replied u w code fields hf
  | accept a f =>
    cases d with
    | perform => exact .performed u a hf (hx a f rfl)
    | reply => exact .performedReplied u a w f hf (hx a f rfl)
    | check => exact .replied u w .CK [] hf

/-- A command that takes requests performs what its owner accepts. -/
theorem takeRequest_answers {decide : Request → State → Option Decision} {s t : State}
    (hd : ∀ r u a f, decide r u = some (.accept a f) → Performs u a)
    (h : takeRequest decide s = .next t) : Answers s t := by
  rcases takeRequest_cases h with rfl | ⟨r, d, x, hc, hx, rfl⟩
  · exact .inl rfl
  · exact .inr (.inr ⟨_, answer_effect (.taken r d hc) (fun a f e => hd r _ a f (e ▸ hx)), rfl⟩)

/-- A clamped value lies between its ends. -/
theorem clamp_bounds {lo hi : Nat} (n : Nat) (h : lo ≤ hi) : lo ≤ clamp lo hi n ∧ clamp lo hi n ≤ hi := by
  unfold clamp
  split_ifs <;> omega

/-- RB's range check is the range of a geometry. -/
theorem geometryInRange_iff (b v w n : Nat) :
    geometryInRange b v w n = true ↔
      Geometry.InRange { bays := b, levels := v, width := w, items := n } := by
  simp [geometryInRange, Geometry.InRange, and_assoc]

theorem decideRunBegin_performs {b v w n : Nat} {s a : State} {f : List Field}
    (h : decideRunBegin b v w n s = .accept a f) : Performs s a := by
  unfold decideRunBegin at h
  split at h
  · cases h
  next hg =>
    split at h
    · cases h
    next hr =>
      cases h
      exact .runBegin _ ((geometryInRange_iff b v w n).mp (by simpa using hg)) (by simpa using hr)

theorem decideListItem_performs {rank code shelf status watch : Nat} {s a : State} {f : List Field}
    (h : decideListItem rank code shelf status watch s = .accept a f) : Performs s a := by
  unfold decideListItem at h
  dsimp only at h
  split at h
  · cases h
  split at h
  · cases h
  next h0 =>
    split at h
    · cases h
    next hr =>
      split at h
      · cases h
      next ht =>
        split at h
        · cases h
        next hk =>
          split at h
          · cases h
          next hc =>
            split at h
            · cases h
            next hp =>
              cases h
              push Not at h0
              exact .listItem _ _ _ _ _ h0.1 (by simpa using hr) (by simpa using ht) (by simpa using hk) hc
                (by simpa using hp)

theorem decideRunClose_performs {force : Nat} {s a : State} {f : List Field}
    (h : decideRunClose force s = .accept a f) : Performs s a := by
  unfold decideRunClose at h
  split at h
  · cases h
  split at h
  · cases h
  next hr =>
    split at h
    · cases h
    next hp =>
      have hc : Performs s s.beginClose := .runClose (by simpa using hr) (by simpa using hp)
      split at h
      · split at h
        · cases h; exact hc
        · cases h
      · cases h; exact hc

theorem decideRunReopen_performs {s a : State} {f : List Field}
    (h : decideRunReopen s = .accept a f) : Performs s a := by
  unfold decideRunReopen at h
  split at h
  · cases h
  next hr =>
    cases h
    exact .runReopen (by simpa using hr)

theorem decideCursorSet_performs {t : Nat} {s a : State} {f : List Field}
    (h : decideCursorSet t s = .accept a f) : Performs s a := by
  unfold decideCursorSet at h
  split at h
  · cases h
  next ht =>
    split at h
    · cases h
    · cases h
      exact .cursorSet t (by simpa using ht)

theorem decideCirculationNotice_performs {code status : Nat} {s a : State} {f : List Field}
    (h : decideCirculationNotice code status s = .accept a f) : Performs s a := by
  unfold decideCirculationNotice at h
  dsimp only at h
  split at h
  · cases h
  split at h
  · cases h
  split at h
  · cases h
  next hr =>
    split at h
    · cases h
    · cases h
      exact .notice _ _ hr

/-- The queries change nothing. -/
theorem answerEntry_same {c : CountTable} {s a : State} {f : List Field} {e : Option Entry}
    (h : c.answerEntry s e = .accept a f) : a = s := by
  cases e with
  | none => cases h
  | some e => cases h; rfl

theorem decideEntryQuery_same {selector key : Nat} {s a : State} {f : List Field}
    (h : decideEntryQuery selector key s = .accept a f) : a = s := by
  unfold decideEntryQuery at h
  split at h
  · split at h
    · cases h
    split at h
    · cases h
    exact answerEntry_same h
  split at h
  · split at h
    · cases h
    split at h
    · cases h
    exact answerEntry_same h
  · cases h

theorem decideVerdictQuery_same {verdict start : Nat} {count : Option Nat} {s a : State} {f : List Field}
    (h : decideVerdictQuery verdict start count s = .accept a f) : a = s := by
  unfold decideVerdictQuery at h
  split at h
  · cases h
  split at h
  · cases h
  split at h
  · cases h
  · cases h; rfl

theorem decideLocationQuery_same {number : Nat} {s a : State} {f : List Field}
    (h : decideLocationQuery number s = .accept a f) : a = s := by
  unfold decideLocationQuery at h
  split at h
  · cases h
  split at h
  · cases h
  · cases h; rfl

theorem decideCoverageRequest_same {s a : State} {f : List Field}
    (h : decideCoverageRequest s = .accept a f) : a = s := by
  unfold decideCoverageRequest at h
  split at h
  · cases h
  split at h <;> (cases h; rfl)

theorem decideForeignListQuery_same {start : Nat} {count : Option Nat} {s a : State} {f : List Field}
    (h : decideForeignListQuery start count s = .accept a f) : a = s := by
  unfold decideForeignListQuery at h
  split at h
  · cases h
  split at h
  · cases h
  · cases h; rfl

/-- The location a number names is one of the run's (R154). -/
theorem CountTable.hasLoc_of_locOfNumber {c : CountTable} {n : Nat} {l : Loc}
    (h : c.locOfNumber n = some l) : c.hasLoc l = true := by
  unfold CountTable.locOfNumber at h
  split at h
  next hs =>
    cases h
    exact hs
  next =>
    split at h
    next hn =>
      cases h
      simp only [Bool.and_eq_true, decide_eq_true_eq] at hn
      simp [CountTable.hasLoc]
      omega
    · cases h

theorem decideOpenRequest_performs {target mode : Nat} {s a : State} {f : List Field}
    (h : decideOpenRequest target mode s = .accept a f) : Performs s a := by
  unfold decideOpenRequest at h
  split at h
  · cases h
  split at h
  · cases h
  split at h
  · cases h
  next hr =>
    split at h
    · cases h
    next hp =>
      split at h
      · cases h
      next hl =>
        cases h
        exact .openSweep _ _ (by simpa using hr) (by simpa using hp) (CountTable.hasLoc_of_locOfNumber hl)

theorem decideEndRequest_performs {s a : State} {f : List Field}
    (h : decideEndRequest s = .accept a f) : Performs s a := by
  unfold decideEndRequest at h
  split at h
  · cases h
  split at h
  · cases h
  next hp =>
    cases h
    exact .endSweep (by simpa using hp)

theorem decideAbandonRequest_performs {s a : State} {f : List Field}
    (h : decideAbandonRequest s = .accept a f) : Performs s a := by
  unfold decideAbandonRequest at h
  split at h
  · cases h
  · cases h
  · cases h
  next hp => cases h; exact .abandon _ (.inl hp)
  next hp => cases h; exact .abandon _ (.inr hp)

theorem decideDormancyRequest_performs {s a : State} {f : List Field}
    (h : decideDormancyRequest s = .accept a f) : Performs s a := by
  unfold decideDormancyRequest at h
  split at h
  · cases h
  next hp =>
    cases h
    exact .dormancy (by simpa using hp)

theorem decideConditionRequest_performs {code threshold enable : Nat} {s a : State} {f : List Field}
    (h : decideConditionRequest code threshold enable s = .accept a f) : Performs s a := by
  unfold decideConditionRequest at h
  split at h
  · cases h
  split at h
  · cases h
  · cases h
    exact .condition _ _ _ (clamp_bounds threshold (Nat.zero_le _)).2

theorem decideModeRequest_performs {combine latch duration : Nat} {s a : State} {f : List Field}
    (h : decideModeRequest combine latch duration s = .accept a f) : Performs s a := by
  unfold decideModeRequest at h
  split at h
  · cases h
  split at h
  · cases h
  · cases h
    exact .combine _ _ _ (clamp_bounds duration (Nat.zero_le _)).2

theorem decideEvidenceModeRequest_performs {mode watermark : Nat} {s a : State} {f : List Field}
    (h : decideEvidenceModeRequest mode watermark s = .accept a f) : Performs s a := by
  unfold decideEvidenceModeRequest at h
  split at h
  · cases h
  · cases h
    exact .evidenceMode _ _ (clamp_bounds watermark (Nat.zero_le _)).2

/-- An ST that is accepted keeps every setting in its range when its own range is that of the setting. -/
theorem decideSetting_performs {id lo hi : Nat} {put : Nat → Settings → Settings} {r : Request}
    {s a : State} {f : List Field} (hlo : lo ≤ hi)
    (hput : ∀ v x, lo ≤ v → v ≤ hi → Settings.InRange x → (put v x).InRange)
    (h : decideSetting id lo hi put r s = some (.accept a f)) : Performs s a := by
  unfold decideSetting at h
  split at h
  next i v =>
    split at h
    · cases h
      obtain ⟨h1, h2⟩ := clamp_bounds v hlo
      exact .setting (put (clamp lo hi v)) (fun x hx => hput _ x h1 h2 hx)
    · split at h <;> cases h
  · cases h

/-- One of the eight ST commands performs what is accepted. -/
theorem takeSetting_answers {id lo hi : Nat} {put : Nat → Settings → Settings} {s t : State}
    (h : takeRequest (decideSetting id lo hi put) s = .next t) (hlo : lo ≤ hi)
    (hput : ∀ v x, lo ≤ v → v ≤ hi → Settings.InRange x → (put v x).InRange) : Answers s t :=
  takeRequest_answers (fun _ _ _ _ hd => decideSetting_performs hlo hput hd) h

/-! ## The commands -/

/-- The end of an event after an effect. -/
theorem finish_answers {s u t : State} (he : Effect s u) (h : finish u = .next t) : Answers s t := by
  cases h
  exact .inr (.inr ⟨u, he, rfl⟩)

/-- A command without its occasion. -/
theorem same_answers {s t : State} (h : (.next s : Host.Outcome State Fault Refusal) = .next t) :
    Answers s t := by
  cases h
  exact .inl rfl

/-- The request that is found to be takeable can be taken. -/
theorem State.canTake_of_takeable {s : State} {r : Request} {d : Terminator}
    (h : s.takeable = some { req := r, disp := d }) : CanTake s r d := by
  unfold State.takeable LinkUnit.takeable at h
  split at h
  next hc => exact ⟨h, hc.1, hc.2.1, hc.2.2⟩
  · cases h

theorem execListItem_answers {s t : State} (h : execListItem s = .next t) : Answers s t := by
  unfold execListItem at h
  split at h
  next ht => exact finish_answers (.filing _ _ _ _ _ _ (State.canTake_of_takeable ht)) h
  · exact same_answers h

theorem execListItemFilingCompletion_answers {s t : State}
    (h : execListItemFilingCompletion s = .next t) : Answers s t := by
  unfold execListItemFilingCompletion at h
  split at h
  next hf =>
    split at h
    next hs =>
      refine finish_answers (answer_effect (.filed _ _ _ _ _ _ hf hs) (fun a f e => ?_)) h
      exact decideListItem_performs e
    · exact same_answers h
  · exact same_answers h

theorem execFetchRequest_answers {s t : State} (h : execFetchRequest s = .next t) : Answers s t := by
  unfold execFetchRequest at h
  split at h
  next ht =>
    have hc := State.canTake_of_takeable ht
    split at h
    · exact finish_answers (.replied _ _ _ _ (.taken _ _ hc)) h
    · exact finish_answers (.fetch _ _ hc) h
  · exact same_answers h

/-- The completion of a barrier frees the slot and answers it. -/
theorem completeBarrier_effect {s : State} {d : Terminator}
    (hf : Frees s { s with link := { s.link with slot := none, barrier := none } }) :
    Effect s (s.completeBarrier d) := by
  unfold State.completeBarrier
  refine answer_effect hf (fun a f e => ?_)
  cases e
  exact .nothing

theorem execBarrierRequest_answers {s t : State} (h : execBarrierRequest s = .next t) : Answers s t := by
  unfold execBarrierRequest at h
  split at h
  next ht =>
    have hc := State.canTake_of_takeable ht
    split at h
    · refine finish_answers (completeBarrier_effect ?_) h
      have hb : s.freeSlot = { s with link := { s.link with slot := none, barrier := none } } := by
        rw [← hc.2.2.2]
        rfl
      exact hb ▸ .taken _ _ hc
    · exact finish_answers (.barrierWaits _ _ hc) h
  · exact same_answers h

theorem execBarrierCompletion_answers {s t : State} (h : execBarrierCompletion s = .next t) :
    Answers s t := by
  unfold execBarrierCompletion at h
  split at h
  next held hd => exact finish_answers (completeBarrier_effect (.barrier held hd)) h
  · exact same_answers h

theorem execTransmissionEnd_answers {s t : State} (h : execTransmissionEnd s = .next t) :
    Answers s t := by
  unfold execTransmissionEnd at h
  split at h
  · exact finish_answers .transmissionEnd h
  · exact same_answers h

theorem execTagRead_answers {r : DeliveredRead} {s t : State} (h : execTagRead r s = .next t) :
    Answers s t := by
  unfold execTagRead at h
  split at h
  · exact same_answers h
  · exact finish_answers (.read r) h

theorem execEncoderCount_answers {d : Direction} {s t : State} (h : execEncoderCount d s = .next t) :
    Answers s t := by
  unfold execEncoderCount at h
  split at h
  next hp ht => exact finish_answers (.shelfCount d _ hp ht) h
  next hp _ => exact finish_answers (.looseCount hp) h
  · exact same_answers h

theorem execBuzzerPatternEnd_answers {s t : State} (h : execBuzzerPatternEnd s = .next t) :
    Answers s t := by
  unfold execBuzzerPatternEnd at h
  split at h
  · exact same_answers h
  · exact finish_answers .patternEnd h

theorem execIdleExpiry_answers {s t : State} (h : execIdleExpiry s = .next t) : Answers s t := by
  unfold execIdleExpiry at h
  split at h
  next hp => exact finish_answers (.idleExpiry hp) h
  · exact same_answers h

theorem execReadFold_answers {s t : State} (h : execReadFold s = .next t) : Answers s t := by
  unfold execReadFold at h
  split at h
  next hp hq => exact finish_answers (.fold _ _ hp hq) h
  · exact same_answers h

theorem execHandOff_answers {s t : State} (h : execHandOff s = .next t) : Answers s t := by
  unfold execHandOff at h
  split at h
  next hp hq hr => exact finish_answers (.handOff _ _ _ hp hq (by rw [hr])) h
  · exact same_answers h

theorem execCommit_answers {s t : State} (h : execCommit s = .next t) : Answers s t := by
  unfold execCommit at h
  split at h
  next hp hc => exact finish_answers (.commit _ hp hc) h
  · exact same_answers h

theorem execShelfJobCompletion_answers {s t : State} (h : execShelfJobCompletion s = .next t) :
    Answers s t := by
  unfold execShelfJobCompletion at h
  split at h
  next hj => exact finish_answers (.shelfJob _ hj) h
  · exact same_answers h

theorem execRunWideJobCompletion_answers {s t : State} (h : execRunWideJobCompletion s = .next t) :
    Answers s t := by
  unfold execRunWideJobCompletion at h
  split at h
  next hj => exact finish_answers (.runJob hj) h
  · exact same_answers h

theorem execRunBegin_answers {s t : State} (h : execRunBegin s = .next t) : Answers s t := by
  unfold execRunBegin at h
  refine takeRequest_answers (fun r u a f hd => ?_) h
  cases r with
  | rb b v w n => exact decideRunBegin_performs (Option.some.inj hd)
  | _ => cases hd

theorem execRunClose_answers {s t : State} (h : execRunClose s = .next t) : Answers s t := by
  unfold execRunClose at h
  refine takeRequest_answers (fun r u a f hd => ?_) h
  cases r with
  | cr force => exact decideRunClose_performs (Option.some.inj hd)
  | _ => cases hd

theorem execRunReopen_answers {s t : State} (h : execRunReopen s = .next t) : Answers s t := by
  unfold execRunReopen at h
  refine takeRequest_answers (fun r u a f hd => ?_) h
  cases r with
  | ro => exact decideRunReopen_performs (Option.some.inj hd)
  | _ => cases hd

theorem execCursorSet_answers {s t : State} (h : execCursorSet s = .next t) : Answers s t := by
  unfold execCursorSet at h
  refine takeRequest_answers (fun r u a f hd => ?_) h
  cases r with
  | sc t => exact decideCursorSet_performs (Option.some.inj hd)
  | _ => cases hd

theorem execCirculationNotice_answers {s t : State} (h : execCirculationNotice s = .next t) : Answers s t := by
  unfold execCirculationNotice at h
  refine takeRequest_answers (fun r u a f hd => ?_) h
  cases r with
  | cn code status => exact decideCirculationNotice_performs (Option.some.inj hd)
  | _ => cases hd

theorem execOpenRequest_answers {s t : State} (h : execOpenRequest s = .next t) : Answers s t := by
  unfold execOpenRequest at h
  refine takeRequest_answers (fun r u a f hd => ?_) h
  cases r with
  | os target mode => exact decideOpenRequest_performs (Option.some.inj hd)
  | _ => cases hd

theorem execEndRequest_answers {s t : State} (h : execEndRequest s = .next t) : Answers s t := by
  unfold execEndRequest at h
  refine takeRequest_answers (fun r u a f hd => ?_) h
  cases r with
  | es => exact decideEndRequest_performs (Option.some.inj hd)
  | _ => cases hd

theorem execAbandonRequest_answers {s t : State} (h : execAbandonRequest s = .next t) : Answers s t := by
  unfold execAbandonRequest at h
  refine takeRequest_answers (fun r u a f hd => ?_) h
  cases r with
  | as => exact decideAbandonRequest_performs (Option.some.inj hd)
  | _ => cases hd

theorem execDormancyRequest_answers {s t : State} (h : execDormancyRequest s = .next t) : Answers s t := by
  unfold execDormancyRequest at h
  refine takeRequest_answers (fun r u a f hd => ?_) h
  cases r with
  | dorm => exact decideDormancyRequest_performs (Option.some.inj hd)
  | _ => cases hd

theorem execConditionRequest_answers {s t : State} (h : execConditionRequest s = .next t) : Answers s t := by
  unfold execConditionRequest at h
  refine takeRequest_answers (fun r u a f hd => ?_) h
  cases r with
  | ac code threshold enable => exact decideConditionRequest_performs (Option.some.inj hd)
  | _ => cases hd

theorem execModeRequest_answers {s t : State} (h : execModeRequest s = .next t) : Answers s t := by
  unfold execModeRequest at h
  refine takeRequest_answers (fun r u a f hd => ?_) h
  cases r with
  | am combine latch duration => exact decideModeRequest_performs (Option.some.inj hd)
  | _ => cases hd

theorem execEvidenceModeRequest_answers {s t : State} (h : execEvidenceModeRequest s = .next t) : Answers s t := by
  unfold execEvidenceModeRequest at h
  refine takeRequest_answers (fun r u a f hd => ?_) h
  cases r with
  | em mode watermark => exact decideEvidenceModeRequest_performs (Option.some.inj hd)
  | _ => cases hd

theorem execEntryQuery_answers {s t : State} (h : execEntryQuery s = .next t) : Answers s t := by
  unfold execEntryQuery at h
  refine takeRequest_answers (fun r u a f hd => ?_) h
  cases r with
  | qe selector key => exact decideEntryQuery_same (Option.some.inj hd) ▸ .nothing
  | _ => cases hd

theorem execVerdictQuery_answers {s t : State} (h : execVerdictQuery s = .next t) : Answers s t := by
  unfold execVerdictQuery at h
  refine takeRequest_answers (fun r u a f hd => ?_) h
  cases r with
  | qv verdict start count => exact decideVerdictQuery_same (Option.some.inj hd) ▸ .nothing
  | _ => cases hd

theorem execLocationQuery_answers {s t : State} (h : execLocationQuery s = .next t) : Answers s t := by
  unfold execLocationQuery at h
  refine takeRequest_answers (fun r u a f hd => ?_) h
  cases r with
  | qh number => exact decideLocationQuery_same (Option.some.inj hd) ▸ .nothing
  | _ => cases hd

theorem execCoverageRequest_answers {s t : State} (h : execCoverageRequest s = .next t) : Answers s t := by
  unfold execCoverageRequest at h
  refine takeRequest_answers (fun r u a f hd => ?_) h
  cases r with
  | cv => exact decideCoverageRequest_same (Option.some.inj hd) ▸ .nothing
  | _ => cases hd

theorem execForeignListQuery_answers {s t : State} (h : execForeignListQuery s = .next t) : Answers s t := by
  unfold execForeignListQuery at h
  refine takeRequest_answers (fun r u a f hd => ?_) h
  cases r with
  | qf start count => exact decideForeignListQuery_same (Option.some.inj hd) ▸ .nothing
  | _ => cases hd

theorem execDiscardRun_answers {s t : State} (h : execDiscardRun s = .next t) : Answers s t := by
  unfold execDiscardRun at h
  refine takeRequest_answers (fun r u a f hd => ?_) h
  cases r with
  | dr => cases hd; exact .discardRun
  | _ => cases hd

theorem execAcknowledgeRequest_answers {s t : State} (h : execAcknowledgeRequest s = .next t) : Answers s t := by
  unfold execAcknowledgeRequest at h
  refine takeRequest_answers (fun r u a f hd => ?_) h
  cases r with
  | aq => cases hd; exact .acknowledge
  | _ => cases hd

theorem execEvidenceReadRequest_answers {s t : State} (h : execEvidenceReadRequest s = .next t) : Answers s t := by
  unfold execEvidenceReadRequest at h
  refine takeRequest_answers (fun r u a f hd => ?_) h
  cases r with
  | er count => cases hd; exact .evidenceRead _
  | _ => cases hd

theorem execSoftReset_answers {s t : State} (h : execSoftReset s = .next t) : Answers s t := by
  unfold execSoftReset at h
  refine takeRequest_answers (fun r u a f hd => ?_) h
  cases r with
  | rs => cases hd; exact .softReset
  | _ => cases hd

theorem execTestRequest_answers {s t : State} (h : execTestRequest s = .next t) : Answers s t := by
  unfold execTestRequest at h
  refine takeRequest_answers (fun r u a f hd => ?_) h
  cases r with
  | ts mask => cases hd; exact .nothing
  | _ => cases hd

theorem execStatusRequest_answers {s t : State} (h : execStatusRequest s = .next t) : Answers s t := by
  unfold execStatusRequest at h
  refine takeRequest_answers (fun r u a f hd => ?_) h
  cases r with
  | qs => cases hd; exact .nothing
  | _ => cases hd

theorem execStStrengthFloor_answers {s t : State} (h : execStStrengthFloor s = .next t) : Answers s t := by
  unfold execStStrengthFloor at h
  exact takeSetting_answers h (by decide) (fun v x _ hu hx =>
    have ⟨_, h2, h3, h4, h5, h6, h7, h8⟩ := hx
    ⟨hu, h2, h3, h4, h5, h6, h7, h8⟩)

theorem execStBleedRatio_answers {s t : State} (h : execStBleedRatio s = .next t) : Answers s t := by
  unfold execStBleedRatio at h
  exact takeSetting_answers h (by decide) (fun v x hl hu hx =>
    have ⟨h1, _, h3, h4, h5, h6, h7, h8⟩ := hx
    ⟨h1, ⟨hl, hu⟩, h3, h4, h5, h6, h7, h8⟩)

theorem execStOrderTolerance_answers {s t : State} (h : execStOrderTolerance s = .next t) : Answers s t := by
  unfold execStOrderTolerance at h
  exact takeSetting_answers h (by decide) (fun v x hl hu hx =>
    have ⟨h1, h2, _, h4, h5, h6, h7, h8⟩ := hx
    ⟨h1, h2, ⟨hl, hu⟩, h4, h5, h6, h7, h8⟩)

theorem execStIdleLimit_answers {s t : State} (h : execStIdleLimit s = .next t) : Answers s t := by
  unfold execStIdleLimit at h
  exact takeSetting_answers h (by decide) (fun v x hl hu hx =>
    have ⟨h1, h2, h3, _, h5, h6, h7, h8⟩ := hx
    ⟨h1, h2, h3, ⟨hl, hu⟩, h5, h6, h7, h8⟩)

theorem execStAttentionMode_answers {s t : State} (h : execStAttentionMode s = .next t) : Answers s t := by
  unfold execStAttentionMode at h
  exact takeSetting_answers h (by decide) (fun v x _ hu hx =>
    have ⟨h1, h2, h3, h4, _, h6, h7, h8⟩ := hx
    ⟨h1, h2, h3, h4, hu, h6, h7, h8⟩)

theorem execStAttentionEnables_answers {s t : State} (h : execStAttentionEnables s = .next t) : Answers s t := by
  unfold execStAttentionEnables at h
  exact takeSetting_answers h (by decide) (fun v x _ hu hx =>
    have ⟨h1, h2, h3, h4, h5, _, h7, h8⟩ := hx
    ⟨h1, h2, h3, h4, h5, hu, h7, h8⟩)

theorem execStStreaming_answers {s t : State} (h : execStStreaming s = .next t) : Answers s t := by
  unfold execStStreaming at h
  exact takeSetting_answers h (by decide) (fun v x _ hu hx =>
    have ⟨h1, h2, h3, h4, h5, h6, _, h8⟩ := hx
    ⟨h1, h2, h3, h4, h5, h6, hu, h8⟩)

theorem execStReadoutSelection_answers {s t : State} (h : execStReadoutSelection s = .next t) : Answers s t := by
  unfold execStReadoutSelection at h
  exact takeSetting_answers h (by decide) (fun v x _ hu hx =>
    have ⟨h1, h2, h3, h4, h5, h6, h7, _⟩ := hx
    ⟨h1, h2, h3, h4, h5, h6, h7, hu⟩)

/-- The inversion of a command: nothing, the supply, or an effect and then the transmitter. -/
theorem exec_answers {c : Instr} {s t : State} (h : exec c s = .next t) : Answers s t := by
  cases c with
  | powerOn strap switch => cases h; exact .inr (.inl ⟨strap, switch, rfl⟩)
  | runBegin => exact execRunBegin_answers h
  | runClose => exact execRunClose_answers h
  | runReopen => exact execRunReopen_answers h
  | cursorSet => exact execCursorSet_answers h
  | circulationNotice => exact execCirculationNotice_answers h
  | openRequest => exact execOpenRequest_answers h
  | endRequest => exact execEndRequest_answers h
  | abandonRequest => exact execAbandonRequest_answers h
  | dormancyRequest => exact execDormancyRequest_answers h
  | conditionRequest => exact execConditionRequest_answers h
  | modeRequest => exact execModeRequest_answers h
  | evidenceModeRequest => exact execEvidenceModeRequest_answers h
  | entryQuery => exact execEntryQuery_answers h
  | verdictQuery => exact execVerdictQuery_answers h
  | locationQuery => exact execLocationQuery_answers h
  | coverageRequest => exact execCoverageRequest_answers h
  | foreignListQuery => exact execForeignListQuery_answers h
  | discardRun => exact execDiscardRun_answers h
  | acknowledgeRequest => exact execAcknowledgeRequest_answers h
  | evidenceReadRequest => exact execEvidenceReadRequest_answers h
  | softReset => exact execSoftReset_answers h
  | testRequest => exact execTestRequest_answers h
  | statusRequest => exact execStatusRequest_answers h
  | stStrengthFloor => exact execStStrengthFloor_answers h
  | stBleedRatio => exact execStBleedRatio_answers h
  | stOrderTolerance => exact execStOrderTolerance_answers h
  | stIdleLimit => exact execStIdleLimit_answers h
  | stAttentionMode => exact execStAttentionMode_answers h
  | stAttentionEnables => exact execStAttentionEnables_answers h
  | stStreaming => exact execStStreaming_answers h
  | stReadoutSelection => exact execStReadoutSelection_answers h
  | listItem => exact execListItem_answers h
  | listItemFilingCompletion => exact execListItemFilingCompletion_answers h
  | fetchRequest => exact execFetchRequest_answers h
  | barrierRequest => exact execBarrierRequest_answers h
  | barrierCompletion => exact execBarrierCompletion_answers h
  | transmissionEnd => exact execTransmissionEnd_answers h
  | buzzerPatternEnd => exact execBuzzerPatternEnd_answers h
  | idleExpiry => exact execIdleExpiry_answers h
  | readFold => exact execReadFold_answers h
  | handOff => exact execHandOff_answers h
  | commit => exact execCommit_answers h
  | shelfJobCompletion => exact execShelfJobCompletion_answers h
  | runWideJobCompletion => exact execRunWideJobCompletion_answers h
  | tagRead r => exact execTagRead_answers h
  | encoderCount d => exact execEncoderCount_answers h
  | recordCompletion d => exact finish_answers (.character _) h
  | uartCharacter c => exact finish_answers (.character c) h
  | triggerPress => exact finish_answers .trigger h
  | callPress => exact finish_answers .call h
  | modeSwitchChange p => exact finish_answers (.switch p) h

/-- An invariant of the effects: what holds of every state without its queue, at power-on, and after every
effect and the transmitter's beginning holds after a step. -/
theorem step_keeps {H G : State → Prop} (hqueue : ∀ s rest, H s → H { s with pending := rest })
    (hsame : ∀ s, H s → G s) (hon : ∀ strap switch pending, G (State.powerOn strap switch pending))
    (heffect : ∀ s u, H s → Effect s u → G u.pump) {s t : State} (hs : H s) (h : step s = .next t) : G t := by
  unfold step at h
  split at h
  · cases h
    exact hsame s hs
  next c rest hp =>
    have hq := hqueue s rest hs
    rcases exec_answers h with rfl | ⟨strap, switch, rfl⟩ | ⟨u, he, rfl⟩
    · exact hsame _ hq
    · exact hon strap switch _
    · exact heffect _ u hq he

end Sys2Proof.Machine
end

section
/-! SUPPORT. The relations between the run, the sweep, the jobs and the link's slots are kept by every step. -/

namespace Sys2Proof.Machine

/-! ## What the shared operations leave of the table, the port and the link -/

@[simp] theorem CountTable.setRecord_run (c : CountTable) (l : Loc) (r : LocRecord) :
    (c.setRecord l r).run = c.run := by
  unfold CountTable.setRecord; split <;> rfl
@[simp] theorem CountTable.setRecord_geometry (c : CountTable) (l : Loc) (r : LocRecord) :
    (c.setRecord l r).geometry = c.geometry := by
  unfold CountTable.setRecord; split <;> rfl
@[simp] theorem CountTable.abandon_run (c : CountTable) (l : Loc) (ranks : List Nat) :
    (c.abandon l ranks).run = c.run := by
  simp [CountTable.abandon]
@[simp] theorem CountTable.abandon_geometry (c : CountTable) (l : Loc) (ranks : List Nat) :
    (c.abandon l ranks).geometry = c.geometry := by
  simp [CountTable.abandon]
@[simp] theorem CountTable.moveCursor_run (c : CountTable) (l : Loc) : (c.moveCursor l).run = c.run := by
  unfold CountTable.moveCursor; split <;> rfl
@[simp] theorem CountTable.moveCursor_geometry (c : CountTable) (l : Loc) :
    (c.moveCursor l).geometry = c.geometry := by
  unfold CountTable.moveCursor; split <;> rfl
@[simp] theorem CountTable.commit_run (c : CountTable) (x : Commit) (w : CommitWork) :
    (c.commit x w).run = c.run := by
  simp [CountTable.commit]
@[simp] theorem CountTable.commit_geometry (c : CountTable) (x : Commit) (w : CommitWork) :
    (c.commit x w).geometry = c.geometry := by
  simp [CountTable.commit]

@[simp] theorem State.abandonSweep_pending (s : State) : s.abandonSweep.pending = s.pending := rfl
@[simp] theorem State.abandonSweep_link (s : State) : s.abandonSweep.link = s.link := rfl
@[simp] theorem State.abandonSweep_port (s : State) :
    s.abandonSweep.port = { s.port with queue := [] } := rfl
@[simp] theorem State.abandonSweep_sweep (s : State) : s.abandonSweep.sweep =
    { s.sweep with phase := .idle, sightings := [], idleTimer := none, rateWindow := none } := rfl
@[simp] theorem State.abandonSweep_order (s : State) : s.abandonSweep.order = s.order := rfl
@[simp] theorem State.abandonSweep_monitor (s : State) : s.abandonSweep.monitor = s.monitor := rfl
@[simp] theorem State.abandonSweep_evidence (s : State) : s.abandonSweep.evidence = s.evidence := rfl
@[simp] theorem State.abandonSweep_panel (s : State) : s.abandonSweep.panel = s.panel := rfl
@[simp] theorem State.abandonSweep_run (s : State) : s.abandonSweep.table.run = s.table.run := by
  unfold State.abandonSweep; dsimp only; split <;> simp
@[simp] theorem State.abandonSweep_geometry (s : State) :
    s.abandonSweep.table.geometry = s.table.geometry := by
  unfold State.abandonSweep; dsimp only; split <;> simp

/-- A wake leaves the controller AWAKE. -/
@[simp] theorem State.wake_dormancy (s : State) (c : WakeCause) : (s.wake c).port.dormancy = .awake := by
  unfold State.wake
  split
  · assumption
  · rfl
@[simp] theorem State.wake_queue (s : State) (c : WakeCause) : (s.wake c).port.queue = s.port.queue := by
  unfold State.wake; split <;> rfl
@[simp] theorem State.wake_slot (s : State) (c : WakeCause) : (s.wake c).link.slot = s.link.slot := by
  unfold State.wake; split <;> simp

/-- Everything an evaluation can do: the conditions are measured, the counter may move, and the active state
may end or begin (R131, R134 to R137). -/
theorem State.evaluate_cases (s : State) (k : EvalKind) (l : Loc) (n : Nat) (ms : List (CondCode × Nat)) :
    s.evaluate k l n ms = { s with monitor := { s.monitor with conds := s.monitor.conds.measure ms } } ∨
    ∃ b, let s' := { s with
        monitor := { s.monitor with
          conds := s.monitor.conds.measure ms, counter := nextCounter b s.monitor.counter } }
      s.evaluate k l n ms = s' ∨ (s.monitor.active = true ∧ s.evaluate k l n ms = s'.deactivate) ∨
      ∃ source, s.monitor.active = false ∧ s.evaluate k l n ms = s'.activate source := by
  unfold State.evaluate
  dsimp only
  split
  · refine .inr ⟨({ s.monitor with conds := s.monitor.conds.measure ms } : Monitor).combined, ?_⟩
    split
    next ha =>
      split
      · exact .inr (.inl ⟨ha, rfl⟩)
      · exact .inl rfl
    next ha =>
      split
      · exact .inr (.inr ⟨_, by simpa using ha, rfl⟩)
      · exact .inl rfl
  · exact .inl rfl

/-! ## The link's slots -/

/-- The slots of a link hold what they held, and no report that waited is lost. -/
structure LinkUnit.SlotsKept (l l' : LinkUnit) : Prop where
  slot      : l'.slot = l.slot
  filing    : l'.filing = l.filing
  barrier   : l'.barrier = l.barrier
  reply     : l'.reply = l.reply
  allowance : l'.allowance = l.allowance
  reports   : l.reports.length ≤ l'.reports.length

theorem LinkUnit.SlotsKept.rfl {l : LinkUnit} : l.SlotsKept l :=
  ⟨Eq.refl _, Eq.refl _, Eq.refl _, Eq.refl _, Eq.refl _, Nat.le_refl _⟩

theorem LinkUnit.SlotsKept.trans {l m n : LinkUnit} (h : l.SlotsKept m) (h' : m.SlotsKept n) :
    l.SlotsKept n :=
  ⟨h'.slot.trans h.slot, h'.filing.trans h.filing, h'.barrier.trans h.barrier, h'.reply.trans h.reply,
    h'.allowance.trans h.allowance, h.reports.trans h'.reports⟩

theorem LinkUnit.queueReport_slotsKept (l : LinkUnit) (r : Report) : l.SlotsKept (l.queueReport r) := by
  unfold LinkUnit.queueReport
  split
  · exact ⟨rfl, rfl, rfl, rfl, rfl, by simp⟩
  · exact ⟨rfl, rfl, rfl, rfl, rfl, le_rfl⟩

theorem LinkUnit.queueRefusal_slotsKept (l : LinkUnit) (r : Reply) : l.SlotsKept (l.queueRefusal r) := by
  unfold LinkUnit.queueRefusal
  split <;> exact ⟨rfl, rfl, rfl, rfl, rfl, le_rfl⟩

theorem LinkUnit.storeChar_slotsKept (l : LinkUnit) (c : Byte) : l.SlotsKept (l.storeChar c) := by
  unfold LinkUnit.storeChar
  repeat' split
  all_goals exact ⟨rfl, rfl, rfl, rfl, rfl, le_rfl⟩

theorem State.evaluate_slotsKept (s : State) (k : EvalKind) (l : Loc) (n : Nat) (ms : List (CondCode × Nat)) :
    s.link.SlotsKept (s.evaluate k l n ms).link := by
  rcases s.evaluate_cases k l n ms with h | ⟨b, h | ⟨_, h⟩ | ⟨source, _, h⟩⟩ <;> rw [h]
  · exact .rfl
  · exact .rfl
  · exact .rfl
  · exact s.link.queueReport_slotsKept _

theorem State.reportAll_slotsKept (s : State) (rs : List Report) :
    s.link.SlotsKept (s.reportAll rs).link := by
  induction rs generalizing s with
  | nil => exact .rfl
  | cons r rs ih => exact (s.link.queueReport_slotsKept r).trans (ih (s.report r))

theorem State.completeOrder_slotsKept (s : State) : s.link.SlotsKept s.completeOrder.link := by
  unfold State.completeOrder
  dsimp only
  split
  · exact (s.evaluate_slotsKept _ _ _ _).trans (LinkUnit.queueReport_slotsKept _ _)
  · exact s.link.queueReport_slotsKept _

theorem State.offerCopy_slotsKept (s : State) (r : StampedRead) :
    s.link.SlotsKept (s.offerCopy r).link := by
  unfold State.offerCopy
  dsimp only
  split
  · exact s.link.queueReport_slotsKept _
  · exact .rfl

/-- The part of `State.Controlled` that speaks of the link's slots alone. -/
structure LinkUnit.Controlled (l : LinkUnit) : Prop where
  filingHoldsSlot : l.filing = true →
    l.reply = .empty ∧ ∃ r c t st w d, l.slot = some { req := .li r c t st w, disp := d }
  barrierHoldsSlot : ∀ b, l.barrier = some b →
    l.reply = .empty ∧ ∃ d, l.slot = some { req := .ba b, disp := d }
  allowanceReserved : (0 < l.allowance ↔ ∃ n d, l.reply = .reserved n d) ∧ l.allowance ≤ l.reports.length

theorem State.Controlled.link {s : State} (h : s.Controlled) : s.link.Controlled :=
  ⟨h.filingHoldsSlot, h.barrierHoldsSlot, h.allowanceReserved⟩

/-- A new link whose slots are in order, empty where the controller is DORMANT. -/
theorem State.Controlled.withLink {s : State} (h : s.Controlled) {l : LinkUnit} (hl : l.Controlled)
    (hd : s.port.dormancy = .dormant → l.slot = none) : State.Controlled { s with link := l } :=
  { h with
    dormantWhenIdle := fun hs => ⟨(h.dormantWhenIdle hs).1, hd hs⟩
    filingHoldsSlot := hl.filingHoldsSlot
    barrierHoldsSlot := hl.barrierHoldsSlot
    allowanceReserved := hl.allowanceReserved }

theorem LinkUnit.Controlled.kept {l l' : LinkUnit} (h : l.Controlled) (hk : l.SlotsKept l') :
    l'.Controlled where
  filingHoldsSlot := by
    rw [hk.filing, hk.reply, hk.slot]
    exact h.filingHoldsSlot
  barrierHoldsSlot := by
    rw [hk.barrier, hk.reply, hk.slot]
    exact h.barrierHoldsSlot
  allowanceReserved := by
    rw [hk.allowance, hk.reply]
    exact ⟨h.allowanceReserved.1, h.allowanceReserved.2.trans hk.reports⟩

theorem State.Controlled.withKeptLink {s : State} (h : s.Controlled) {l : LinkUnit}
    (hk : s.link.SlotsKept l) : State.Controlled { s with link := l } :=
  h.withLink (h.link.kept hk) (fun hd => hk.slot.trans (h.dormantWhenIdle hd).2)

/-- A free link without an allowance is in order. -/
theorem LinkUnit.Free.controlled {l : LinkUnit} (h : l.Free) (ha : l.allowance = 0) : l.Controlled where
  filingHoldsSlot := by simp [h.filing]
  barrierHoldsSlot := by simp [h.barrier]
  allowanceReserved := by simp [h.reply, ha]

/-- With the slot empty, neither a filing nor a barrier is under way. -/
theorem LinkUnit.Controlled.idle_of_noSlot {l : LinkUnit} (h : l.Controlled) (hs : l.slot = none) :
    l.filing = false ∧ l.barrier = none := by
  constructor
  · rw [Bool.eq_false_iff]
    intro hf
    obtain ⟨_, _, _, _, _, _, _, hx⟩ := h.filingHoldsSlot hf
    simp [hs] at hx
  · rw [Option.eq_none_iff_forall_ne_some]
    intro b hb
    obtain ⟨_, _, hx⟩ := h.barrierHoldsSlot b hb
    simp [hs] at hx

/-- Without a reservation there is no allowance. -/
theorem LinkUnit.Controlled.noAllowance {l : LinkUnit} (h : l.Controlled)
    (hr : ∀ n d, l.reply ≠ .reserved n d) : l.allowance = 0 := by
  by_contra ha
  obtain ⟨n, d, hx⟩ := h.allowanceReserved.1.mp (by omega)
  exact hr n d hx

/-- A slot reply that is not empty has no filing and no barrier beside it. -/
theorem LinkUnit.Controlled.idle_of_reply {l : LinkUnit} (h : l.Controlled) (hr : l.reply ≠ .empty) :
    l.filing = false ∧ l.barrier = none := by
  constructor
  · rw [Bool.eq_false_iff]
    exact fun hf => hr (h.filingHoldsSlot hf).1
  · rw [Option.eq_none_iff_forall_ne_some]
    exact fun b hb => hr (h.barrierHoldsSlot b hb).1

/-- The transmitter keeps the link's slots in order. -/
theorem LinkUnit.Controlled.pump {l : LinkUnit} (h : l.Controlled) : l.pump.Controlled := by
  rcases l.pump_cases with hp | ⟨r, -, hr, hp⟩ | ⟨r, rest, -, -, -, -, hp⟩ |
      ⟨r, rest, -, -, -, -, hq, ha, hp⟩ | ⟨r, rest, -, -, -, -, hq, ha, -, hp⟩ <;> rw [hp]
  · exact h
  · obtain ⟨hf, hb⟩ := h.idle_of_reply (by simp [hr])
    have ha : l.allowance = 0 := h.noAllowance (by simp [hr])
    exact ⟨by simp [hf], by simp [hb], by simp [ha]⟩
  · exact ⟨h.filingHoldsSlot, h.barrierHoldsSlot, h.allowanceReserved⟩
  · obtain ⟨n, d, hres⟩ := h.allowanceReserved.1.mp ha
    obtain ⟨hf, hb⟩ := h.idle_of_reply (by simp [hres])
    have hlen : l.allowance ≤ rest.length + 1 := by simpa [hq] using h.allowanceReserved.2
    refine ⟨by simp [LinkUnit.countFetched, LinkUnit.beginReport, hres, hf],
      by simp [LinkUnit.countFetched, LinkUnit.beginReport, hres, hb], ?_⟩
    simp only [LinkUnit.countFetched, LinkUnit.beginReport, hres]
    refine ⟨?_, by omega⟩
    by_cases hl : l.allowance - 1 = 0
    · cases d <;> simp [hl, fetchReply]
    · simp [hl]
      omega
  · exact ⟨h.filingHoldsSlot, h.barrierHoldsSlot, h.allowanceReserved.1, by simp [LinkUnit.beginReport, ha]⟩

theorem State.Controlled.pump {s : State} (h : s.Controlled) : s.pump.Controlled := by
  rcases s.pump_cases with ⟨_, _, hp⟩ | ⟨_, hp⟩ <;> rw [hp]
  · exact h
  · exact h.withLink h.link.pump (fun hd => by simpa using (h.dormantWhenIdle hd).2)

/-! ## The shared operations -/

theorem State.Controlled.report {s : State} (h : s.Controlled) (r : Report) : (s.report r).Controlled :=
  h.withKeptLink (s.link.queueReport_slotsKept r)

theorem State.Controlled.buzz {s : State} (h : s.Controlled) (p : Pattern) : (s.buzz p).Controlled :=
  { h with }

theorem State.Controlled.deactivate {s : State} (h : s.Controlled) : s.deactivate.Controlled :=
  { h with }

theorem State.Controlled.activate {s : State} (h : s.Controlled) (r : SourceRecord) :
    (s.activate r).Controlled := by
  have h' : State.Controlled { s with
      monitor := { s.monitor with active := true, source := some r }, evidence := s.evidence.rise } :=
    { h with }
  exact (h'.report (.anm r)).buzz .longTone

theorem State.Controlled.evaluate {s : State} (h : s.Controlled) (k : EvalKind) (l : Loc) (n : Nat)
    (ms : List (CondCode × Nat)) : (s.evaluate k l n ms).Controlled := by
  have hm : ∀ m : Monitor, State.Controlled { s with monitor := m } := fun m => { h with }
  rcases s.evaluate_cases k l n ms with e | ⟨b, e | ⟨_, e⟩ | ⟨source, _, e⟩⟩ <;> rw [e]
  · exact hm _
  · exact hm _
  · exact (hm _).deactivate
  · exact (hm _).activate source

theorem State.Controlled.wake {s : State} (h : s.Controlled) (c : WakeCause) : (s.wake c).Controlled := by
  unfold State.wake
  split
  · exact h
  · have h' : State.Controlled { s with port := { s.port with dormancy := .awake } } :=
      { h with dormantWhenIdle := nofun }
    exact h'.report _

theorem State.Controlled.offerCopy {s : State} (h : s.Controlled) (r : StampedRead) :
    (s.offerCopy r).Controlled := by
  have h' : State.Controlled { s with evidence := s.evidence.capture r } := { h with }
  unfold State.offerCopy
  dsimp only
  split
  · exact h'.report _
  · exact h'

/-- A reply is placed in a free slot. -/
theorem State.Controlled.place {s : State} (h : s.Controlled) (hf : s.link.Free) (w : RequestWord)
    (code : StatusCode) (fields : List Field) : (s.place w code fields).Controlled := by
  have ha : s.link.allowance = 0 := h.link.noAllowance (by simp [hf.reply])
  refine h.withLink ⟨?_, ?_, ?_⟩ (fun _ => hf.slot)
  · simp [hf.filing]
  · simp [hf.barrier]
  · simp [ha]

/-! ## The sweep -/

/-- A sweep opens in an AWAKE controller with no sweep, in OPEN (R67, R69). -/
theorem State.Controlled.openSweep {s : State} (h : s.Controlled) {target : Loc} (mode : SweepMode)
    (hr : s.table.run = .opened) (hp : s.sweep.phase = .idle) (hd : s.port.dormancy = .awake) :
    (s.openSweep target mode).Controlled where
  sweepInOpenRun _ := by simp [State.openSweep, State.buzz, hr]
  queueWhileFolding := by simp [State.openSweep, State.buzz, SweepPhase.folds]
  tableWhileClaimed _ := rfl
  timerInOpen := by simp [State.openSweep, State.buzz]
  bleedCaptured := by simp [State.openSweep, State.buzz]
  commitInFlight := by
    have hn : s.sweep.inFlight = none := by simpa [hp] using h.commitInFlight.1
    simp [State.openSweep, State.buzz, hn]
  shelfJobInOrder := by simpa [State.openSweep, State.buzz, hp] using h.shelfJobInOrder
  runJobInClosing := by simpa [State.openSweep, State.buzz] using h.runJobInClosing
  geometryInRun := by simpa [State.openSweep, State.buzz] using h.geometryInRun
  dormantWhenIdle := by simp [State.openSweep, State.buzz, hd]
  filingHoldsSlot := h.filingHoldsSlot
  barrierHoldsSlot := h.barrierHoldsSlot
  allowanceReserved := h.allowanceReserved

/-- No commit is in flight outside COMMIT. -/
theorem State.Controlled.noCommit {s : State} (h : s.Controlled) (hp : s.sweep.phase ≠ .commit) :
    s.sweep.inFlight = none := by
  simpa [hp] using h.commitInFlight.1

/-- The idle timer and the rate window stand only in OPEN. -/
theorem State.Controlled.noTimer {s : State} (h : s.Controlled) (hp : s.sweep.phase ≠ .opened) :
    s.sweep.idleTimer = none ∧ s.sweep.rateWindow = none :=
  ⟨by simpa [hp] using h.timerInOpen.1, by simpa [hp] using h.timerInOpen.2⟩

/-- A sweep in OPEN ends (R76, R77). -/
theorem State.Controlled.endSweep {s : State} (h : s.Controlled) (hp : s.sweep.phase = .opened) :
    s.endSweep.Controlled :=
  { h with
    sweepInOpenRun := fun _ => h.sweepInOpenRun (by simp [hp])
    queueWhileFolding := by simp [SweepPhase.folds]
    tableWhileClaimed := by simp [SweepPhase.claims]
    timerInOpen := by simp
    bleedCaptured := by simp
    commitInFlight := by simp [h.noCommit (by simp [hp])]
    shelfJobInOrder := by simpa [hp] using h.shelfJobInOrder
    dormantWhenIdle := fun hd => absurd (h.dormantWhenIdle hd).1 (by simp [hp]) }

/-- A sweep in OPEN or FINALIZE is abandoned (R81). -/
theorem State.Controlled.abandonSweep {s : State} (h : s.Controlled)
    (hp : s.sweep.phase = .opened ∨ s.sweep.phase = .finalize) : s.abandonSweep.Controlled :=
  { h with
    sweepInOpenRun := fun hn => absurd rfl hn
    queueWhileFolding := fun _ => rfl
    tableWhileClaimed := fun _ => rfl
    timerInOpen := by simp [State.abandonSweep]
    bleedCaptured := nofun
    commitInFlight := by
      have hn : s.sweep.inFlight = none := h.noCommit (by rcases hp with hp | hp <;> simp [hp])
      simp [State.abandonSweep, hn]
    shelfJobInOrder := by
      have ho : s.sweep.phase ≠ .order := by rcases hp with hp | hp <;> simp [hp]
      simpa [State.abandonSweep, ho] using h.shelfJobInOrder
    runJobInClosing := by simpa using h.runJobInClosing
    geometryInRun := by simpa using h.geometryInRun
    dormantWhenIdle := fun hd => ⟨rfl, (h.dormantWhenIdle hd).2⟩ }

end Sys2Proof.Machine
end

section
namespace Sys2Proof.Machine

/-! ## The jobs (R79, R102, R107, R109) -/

@[simp] theorem OrderUnit.beginShelf_jobs (entries : List Entry) (tolerance : Nat) (jobs : List Nat) :
    (OrderUnit.beginShelf entries tolerance jobs).jobs = jobs := by
  cases jobs <;> rfl

/-- The job begun is that of the list's head. -/
theorem OrderUnit.beginShelf_current (entries : List Entry) (tolerance : Nat) (jobs : List Nat) :
    (OrderUnit.beginShelf entries tolerance jobs).current =
      match jobs with
      | [] => .idle
      | t :: _ => .shelf t := by
  cases jobs <;> rfl

/-- The Sweep Unit hands over to a job list: in ORDER while a shelf is left, else in IDLE. -/
def SweepUnit.ordering (u : SweepUnit) (jobs : List Nat) : SweepUnit :=
  { u with phase := if jobs.isEmpty then .idle else .order, sightings := [], inFlight := none }

/-- The first job of a list begins after the commit event, or the next one after a job's completion. -/
theorem State.Controlled.beginJobs {s t : State} (h : s.Controlled) {entries : List Entry} {tolerance : Nat}
    {jobs : List Nat} (hp : s.sweep.phase = .commit ∨ s.sweep.phase = .order)
    (hport : t.port = s.port) (hlink : s.link.SlotsKept t.link) (hrun : t.table.run = s.table.run)
    (hgeo : t.table.geometry = s.table.geometry)
    (horder : t.order = OrderUnit.beginShelf entries tolerance jobs)
    (hphase : t.sweep.phase = if jobs.isEmpty then .idle else .order)
    (hsight : t.sweep.sightings = []) (hflight : t.sweep.inFlight = none)
    (htarget : t.sweep.record.target = s.sweep.record.target)
    (hmode : t.sweep.record.mode = s.sweep.record.mode) (htimer : t.sweep.idleTimer = s.sweep.idleTimer)
    (hwindow : t.sweep.rateWindow = s.sweep.rateWindow) : t.Controlled := by
  have hopen : s.table.run = .opened ∧ s.sweep.record.target.isSome = true ∧
      s.sweep.record.mode.isSome = true := h.sweepInOpenRun (by rcases hp with hp | hp <;> simp [hp])
  have hidle : t.sweep.phase = .idle ∨ t.sweep.phase = .order := by
    rw [hphase]
    split_ifs <;> simp
  have hnot : t.sweep.phase ≠ .opened ∧ t.sweep.phase ≠ .finalize ∧ t.sweep.phase ≠ .commit := by
    rcases hidle with e | e <;> simp [e]
  obtain ⟨ht, hw⟩ := h.noTimer (by rcases hp with hp | hp <;> simp [hp])
  have hl : t.link.Controlled := h.link.kept hlink
  have hawake : s.port.dormancy ≠ .dormant := fun hd =>
    absurd (h.dormantWhenIdle hd).1 (by rcases hp with hp | hp <;> simp [hp])
  exact {
    sweepInOpenRun := fun _ => by rw [hrun, htarget, hmode]; exact hopen
    queueWhileFolding := fun _ => by
      rw [hport]
      exact h.queueWhileFolding (by rcases hp with hp | hp <;> simp [hp, SweepPhase.folds])
    tableWhileClaimed := fun _ => hsight
    timerInOpen := by simp [htimer, hwindow, ht, hw, hnot.1]
    bleedCaptured := fun e => absurd e hnot.2.1
    commitInFlight := by simp [hflight, hnot.2.2]
    shelfJobInOrder := by
      rw [horder, hphase, OrderUnit.beginShelf_jobs, OrderUnit.beginShelf_current]
      cases jobs <;> simp
    runJobInClosing := by
      rw [horder, hrun, hopen.1, OrderUnit.beginShelf_current]
      cases jobs <;> simp
    geometryInRun := by rw [hgeo, hrun]; exact h.geometryInRun
    dormantWhenIdle := fun hd => absurd (hport ▸ hd) hawake
    filingHoldsSlot := hl.filingHoldsSlot
    barrierHoldsSlot := hl.barrierHoldsSlot
    allowanceReserved := hl.allowanceReserved }

/-- The commit event, but for ORDER's completion with no affected shelf. -/
def State.committed (c : Commit) (s : State) : State :=
  let w := s.table.applyOffers c
  let table := s.table.commit c w
  ({ s with
      table := table
      sweep := s.sweep.afterCommit c w.outcomes
      order := OrderUnit.beginShelf table.entries s.link.settings.tolerance w.affectedShelves }).reportAll w.wsns

/-- The commit event completes ORDER when no shelf is affected (R79). -/
theorem State.commitEvent_eq (c : Commit) (s : State) :
    s.commitEvent c =
      if (s.table.applyOffers c).affectedShelves.isEmpty then (s.committed c).completeOrder
      else s.committed c := rfl

/-- The job in flight completes, but for ORDER's completion after the last. -/
def State.shelfJobDone (s : State) : State :=
  let entries := writeShelfStandings s.order.piles s.table.entries
  { s with
    table := { s.table with entries := entries }
    order := OrderUnit.beginShelf entries s.link.settings.tolerance s.order.jobs.tail }

/-- The last job's completion completes ORDER (R79, R109). -/
theorem State.completeShelfJob_eq (s : State) :
    s.completeShelfJob =
      if s.order.jobs.tail.isEmpty then s.shelfJobDone.completeOrder else s.shelfJobDone := rfl

section
variable (s : State) (c : Commit)

@[simp] theorem State.committed_pending : (s.committed c).pending = s.pending := by
  simp [State.committed]
@[simp] theorem State.committed_port : (s.committed c).port = s.port := by
  simp [State.committed]
@[simp] theorem State.committed_sweep :
    (s.committed c).sweep = s.sweep.afterCommit c (s.table.applyOffers c).outcomes := by
  simp [State.committed]
@[simp] theorem State.committed_table :
    (s.committed c).table = s.table.commit c (s.table.applyOffers c) := by
  simp [State.committed]
@[simp] theorem State.committed_order :
    (s.committed c).order = OrderUnit.beginShelf (s.table.commit c (s.table.applyOffers c)).entries
      s.link.settings.tolerance (s.table.applyOffers c).affectedShelves := by
  simp [State.committed]
@[simp] theorem State.committed_monitor : (s.committed c).monitor = s.monitor := by
  simp [State.committed]
@[simp] theorem State.committed_evidence : (s.committed c).evidence = s.evidence := by
  simp [State.committed]
@[simp] theorem State.committed_panel : (s.committed c).panel = s.panel := by
  simp [State.committed]
theorem State.committed_slotsKept : s.link.SlotsKept (s.committed c).link := by
  unfold State.committed
  dsimp only
  refine LinkUnit.SlotsKept.trans ?_ (State.reportAll_slotsKept _ _)
  exact .rfl

end

theorem State.Controlled.commitEvent {s : State} (h : s.Controlled) {c : Commit}
    (hp : s.sweep.phase = .commit) : (s.commitEvent c).Controlled := by
  rw [State.commitEvent_eq]
  split
  next he =>
    exact h.beginJobs (jobs := (s.table.applyOffers c).affectedShelves) (.inl hp) (by simp)
      ((s.committed_slotsKept c).trans (State.completeOrder_slotsKept _)) (by simp) (by simp)
      (by simp; rfl) (by simp [he]) (by simp [SweepUnit.afterCommit]) (by simp [SweepUnit.afterCommit])
      (by simp [SweepUnit.afterCommit]) (by simp [SweepUnit.afterCommit]) (by simp [SweepUnit.afterCommit])
      (by simp [SweepUnit.afterCommit])
  next he =>
    exact h.beginJobs (jobs := (s.table.applyOffers c).affectedShelves) (.inl hp) (by simp)
      (s.committed_slotsKept c) (by simp) (by simp)
      (by simp; rfl) (by simp [he, SweepUnit.afterCommit]) (by simp [SweepUnit.afterCommit])
      (by simp [SweepUnit.afterCommit]) (by simp [SweepUnit.afterCommit]) (by simp [SweepUnit.afterCommit])
      (by simp [SweepUnit.afterCommit]) (by simp [SweepUnit.afterCommit])

/-- A shelf job is in flight only in ORDER. -/
theorem State.Controlled.inOrder {s : State} (h : s.Controlled) {t : Nat}
    (hj : s.order.current = .shelf t) : s.sweep.phase = .order := by
  refine h.shelfJobInOrder.1.mpr (fun he => ?_)
  simpa [he] using (h.shelfJobInOrder.2 t).mp hj

theorem State.Controlled.completeShelfJob {s : State} (h : s.Controlled) {t : Nat}
    (hj : s.order.current = .shelf t) : s.completeShelfJob.Controlled := by
  have hp := h.inOrder hj
  have hs : s.sweep.sightings = [] := h.tableWhileClaimed (by simp [hp, SweepPhase.claims])
  have hf : s.sweep.inFlight = none := h.noCommit (by simp [hp])
  rw [State.completeShelfJob_eq]
  split
  next he =>
    exact h.beginJobs (jobs := s.order.jobs.tail) (.inr hp) (by simp [State.shelfJobDone])
      (State.completeOrder_slotsKept s.shelfJobDone) (by simp [State.shelfJobDone])
      (by simp [State.shelfJobDone]) (by simp [State.shelfJobDone]; rfl) (by simp [he])
      (by simpa [State.shelfJobDone] using hs) (by simpa [State.shelfJobDone] using hf)
      (by simp [State.shelfJobDone]) (by simp [State.shelfJobDone]) (by simp [State.shelfJobDone])
      (by simp [State.shelfJobDone])
  next he =>
    exact h.beginJobs (jobs := s.order.jobs.tail) (.inr hp) rfl .rfl rfl rfl rfl
      (by simpa [he, State.shelfJobDone] using hp) hs hf rfl rfl rfl rfl

/-- The run-wide job completes: CLOSED, with no job (R112). -/
theorem State.Controlled.completeRunJob {s : State} (h : s.Controlled) (hj : s.order.current = .run) :
    s.completeRunJob.Controlled := by
  have hr : s.table.run = .closing := h.runJobInClosing.mp hj
  have hp : s.sweep.phase = .idle := by
    by_contra hp
    simpa [hr] using (h.sweepInOpenRun hp).1
  have h' : State.Controlled { s with
      table := { s.table with
        run := .closed, entries := writeRunStandings s.order.piles s.table.entries }
      order := OrderUnit.cleared } :=
    { h with
      sweepInOpenRun := fun hn => absurd hp hn
      shelfJobInOrder := by simp [OrderUnit.cleared, hp]
      runJobInClosing := by simp [OrderUnit.cleared]
      geometryInRun := by simpa [hr] using h.geometryInRun }
  exact h'.report _

/-! ## The requests -/

/-- The slot frees in an AWAKE controller and leaves nothing of a request (R157). -/
theorem Frees.controlled {s u : State} (hf : Frees s u) (h : s.Controlled) :
    u.Controlled ∧ u.link.Free ∧ u.port.dormancy = .awake := by
  have hawake : s.link.slot ≠ none → s.port.dormancy = .awake := fun hn => by
    cases hd : s.port.dormancy with
    | awake => rfl
    | dormant => exact absurd (h.dormantWhenIdle hd).2 hn
  cases hf with
  | taken r d hc =>
    obtain ⟨hs, hr, hfil, hb⟩ := hc
    have hl : s.freeSlot.link.Free := ⟨rfl, hr, hfil, hb⟩
    have ha : s.link.allowance = 0 := h.link.noAllowance (by simp [hr])
    exact ⟨h.withLink (hl.controlled ha) (fun _ => rfl), hl, hawake (by simp [hs])⟩
  | filed r c t st w d hfil hs =>
    have hr := (h.filingHoldsSlot hfil).1
    have hb : s.link.barrier = none := by
      rw [Option.eq_none_iff_forall_ne_some]
      intro b hb
      obtain ⟨_, _, hx⟩ := h.barrierHoldsSlot b hb
      simp [hs] at hx
    have hl : s.endFiling.link.Free := ⟨rfl, hr, rfl, hb⟩
    have ha : s.link.allowance = 0 := h.link.noAllowance (by simp [hr])
    exact ⟨h.withLink (hl.controlled ha) (fun _ => rfl), hl, hawake (by simp [hs])⟩
  | barrier held hd =>
    unfold State.dueBarrier at hd
    split at hd
    next scope hb =>
      obtain ⟨hr, d, hs⟩ := h.barrierHoldsSlot scope hb
      have hfil : s.link.filing = false := by
        rw [Bool.eq_false_iff]
        intro hf
        obtain ⟨_, _, _, _, _, _, _, hx⟩ := h.filingHoldsSlot hf
        simp [hs] at hx
      have hl : ({ s.link with slot := none, barrier := none } : LinkUnit).Free := ⟨rfl, hr, hfil, rfl⟩
      have ha : s.link.allowance = 0 := h.link.noAllowance (by simp [hr])
      exact ⟨h.withLink (hl.controlled ha) (fun _ => rfl), hl, hawake (by simp [hs])⟩
    · cases hd

/-- A report leaves the link free. -/
theorem LinkUnit.Free.queueReport {l : LinkUnit} (h : l.Free) (r : Report) : (l.queueReport r).Free :=
  ⟨by simp [h.slot], by simp [h.reply], by simp [h.filing], by simp [h.barrier]⟩

/-- In EMPTY, LOADING, CLOSING and CLOSED there is no sweep. -/
theorem State.Controlled.noSweep {s : State} (h : s.Controlled) (hr : s.table.run ≠ .opened) :
    s.sweep.phase = .idle := by
  by_contra hp
  exact hr (h.sweepInOpenRun hp).1

/-- A run that has no job in flight and changes its state to one that is not CLOSING. -/
theorem State.Controlled.noRunJob {s : State} (h : s.Controlled) (hr : s.table.run ≠ .closing) :
    s.order.current ≠ .run := fun hj => hr (h.runJobInClosing.mp hj)

theorem State.Controlled.softReset {s : State} (h : s.Controlled) (hf : s.link.Free) :
    s.softReset.Controlled := by
  have h1 : (if s.sweep.abandonable then s.abandonSweep else s).Controlled := by
    split
    next ha => exact h.abandonSweep (by simpa [SweepUnit.abandonable] using ha)
    · exact h
  have hl : s.link.softReset.Free := ⟨hf.slot, hf.reply, hf.filing, rfl⟩
  have hlink : (if s.sweep.abandonable then s.abandonSweep else s).link = s.link := by split <;> rfl
  unfold State.softReset
  dsimp only
  rw [hlink]
  have h2 := h1.withLink (hl.controlled rfl) (fun _ => hf.slot)
  exact { h2 with
    queueWhileFolding := fun _ => rfl
    dormantWhenIdle := nofun }

theorem State.Controlled.discardRun {s : State} (h : s.Controlled) (hf : s.link.Free) :
    s.discardRun.Controlled := by
  have hl : s.link.discardRun.Controlled :=
    LinkUnit.Free.controlled ⟨hf.slot, hf.reply, hf.filing, rfl⟩ rfl
  have hr : s.discardRun.table.run = .empty := by
    simp only [State.discardRun_table, CountTable.discard]
    split
    · assumption
    · rfl
  have hg : s.discardRun.table.geometry = none := by
    simp only [State.discardRun_table, CountTable.discard]
    split
    next he => exact h.geometryInRun.mpr he
    · rfl
  exact {
    sweepInOpenRun := fun hn => absurd rfl hn
    queueWhileFolding := fun _ => rfl
    tableWhileClaimed := fun _ => rfl
    timerInOpen := by simp [SweepUnit.cleared]
    bleedCaptured := nofun
    commitInFlight := by simp [SweepUnit.cleared]
    shelfJobInOrder := by simp [SweepUnit.cleared, OrderUnit.cleared]
    runJobInClosing := by rw [hr]; simp [OrderUnit.cleared]
    geometryInRun := iff_of_true hg hr
    dormantWhenIdle := nofun
    filingHoldsSlot := hl.filingHoldsSlot
    barrierHoldsSlot := hl.barrierHoldsSlot
    allowanceReserved := hl.allowanceReserved }

/-- An accepted request keeps the relations and leaves the link free for its answer. -/
theorem Performs.controlled {s a : State} (ha : Performs s a) (h : s.Controlled) (hf : s.link.Free)
    (hd : s.port.dormancy = .awake) : a.Controlled ∧ a.link.Free := by
  cases ha with
  | nothing => exact ⟨h, hf⟩
  | runBegin g hg hr =>
    have hc := h.noRunJob (by simp [hr])
    have hp := h.noSweep (by simp [hr])
    exact ⟨{ h with
      sweepInOpenRun := fun hn => absurd hp hn
      runJobInClosing := by simp [hc, CountTable.beginRun]
      geometryInRun := by simp [CountTable.beginRun] }, hf⟩
  | listItem rank shelf item st watch h0 hr =>
    have hc := h.noRunJob (by simp [hr])
    have hp := h.noSweep (by simp [hr])
    have hg : s.table.geometry ≠ none := by simp [h.geometryInRun, hr]
    exact ⟨{ h with
      sweepInOpenRun := fun hn => absurd hp hn
      runJobInClosing := by
        simp only [hc, CountTable.file, hr, false_iff]
        split_ifs <;> simp
      geometryInRun := by
        simp only [hg, CountTable.file, hr, false_iff]
        split_ifs <;> simp }, hf⟩
  | runClose hr hp =>
    exact ⟨{ h with
      sweepInOpenRun := fun hn => absurd hp hn
      shelfJobInOrder := by simp [hp, OrderUnit.beginRun]
      runJobInClosing := by simp [OrderUnit.beginRun]
      geometryInRun := by simpa [hr] using h.geometryInRun }, hf⟩
  | runReopen hr =>
    have hc := h.noRunJob (by simp [hr])
    have hp := h.noSweep (by simp [hr])
    exact ⟨{ h with
      sweepInOpenRun := fun hn => absurd hp hn
      runJobInClosing := by simp [hc, CountTable.reopen]
      geometryInRun := by simpa [hr, CountTable.reopen] using h.geometryInRun }, hf⟩
  | discardRun => exact ⟨h.discardRun hf, ⟨hf.slot, hf.reply, hf.filing, rfl⟩⟩
  | cursorSet => exact ⟨{ h with }, hf⟩
  | notice => exact ⟨{ h with }, hf⟩
  | openSweep target mode hr hp => exact ⟨h.openSweep mode hr hp hd, hf⟩
  | endSweep hp => exact ⟨h.endSweep hp, hf⟩
  | abandon r hp => exact ⟨(h.abandonSweep hp).report r, hf.queueReport r⟩
  | dormancy hp => exact ⟨{ h with dormantWhenIdle := fun _ => ⟨hp, hf.slot⟩ }, hf⟩
  | condition => exact ⟨{ h with }, hf⟩
  | combine => exact ⟨{ h with }, hf⟩
  | acknowledge =>
    unfold State.acknowledge
    split
    · exact ⟨{ h with }, hf⟩
    · exact ⟨h, hf⟩
  | evidenceMode => exact ⟨{ h with }, hf⟩
  | evidenceRead => exact ⟨{ h with }, hf⟩
  | setting => exact ⟨{ h with }, ⟨hf.slot, hf.reply, hf.filing, hf.barrier⟩⟩
  | softReset =>
    refine ⟨h.softReset hf, ?_⟩
    unfold State.softReset
    dsimp only
    split <;> exact ⟨hf.slot, hf.reply, hf.filing, rfl⟩

/-! ## The effects -/

/-- The text of a record that completes enters the slot, or is refused; the controller has been woken. -/
theorem State.Controlled.completeRecord {s : State} (h : s.Controlled) (d : Terminator)
    (hd : s.port.dormancy = .awake) :
    State.Controlled { s with link := s.link.completeRecord d } := by
  have hc : s.link.SlotsKept { s.link with buffer := [], parser := .awaitWord } :=
    ⟨rfl, rfl, rfl, rfl, rfl, le_rfl⟩
  have hrefuse : ∀ r, State.Controlled { s with
      link := ({ s.link with buffer := [], parser := .awaitWord } : LinkUnit).queueRefusal r } :=
    fun r => h.withKeptLink (hc.trans (LinkUnit.queueRefusal_slotsKept _ r))
  unfold LinkUnit.completeRecord
  dsimp only
  split
  · exact hrefuse _
  split
  · exact hrefuse _
  next hslot =>
    split
    · exact hrefuse _
    · exact hrefuse _
    · have hn : s.link.slot = none := by simpa using hslot
      obtain ⟨hfil, hb⟩ := h.link.idle_of_noSlot hn
      refine h.withLink ⟨?_, ?_, h.allowanceReserved⟩ (fun hdo => ?_)
      · simp [hfil]
      · simp [hb]
      · simp [hd] at hdo

theorem State.Controlled.receive {s : State} (h : s.Controlled) (c : Byte) : (s.receive c).Controlled := by
  unfold State.receive
  split
  · split
    · exact (h.wake .record).completeRecord _ (by simp)
    · exact h.withKeptLink (s.link.storeChar_slotsKept c)
  · exact h.withKeptLink (s.link.storeChar_slotsKept c)

/-- An FE reserves the reply slot while it has an allowance (R161). -/
theorem State.Controlled.fetch {s : State} (h : s.Controlled) (hf : s.link.Free) (count : Option Nat)
    (d : Terminator) : (s.fetch count d).Controlled := by
  refine h.withLink ⟨?_, ?_, ?_⟩ (fun _ => hf.slot)
  · simp [hf.filing]
  · simp [hf.barrier]
  · refine ⟨?_, Nat.min_le_right _ _⟩
    dsimp only
    split
    next h0 => cases d <;> simp [h0, fetchReply]
    next h0 =>
      refine iff_of_true (by omega) ⟨_, _, rfl⟩

/-- In OPEN and FINALIZE reads may wait in the queue. -/
theorem State.Controlled.withQueue {s : State} (h : s.Controlled) {p : ReadPort}
    (hq : s.sweep.phase.folds = false → p.queue = []) (hd : p.dormancy = s.port.dormancy) :
    State.Controlled { s with port := p } :=
  { h with
    queueWhileFolding := hq
    dormantWhenIdle := fun e => h.dormantWhenIdle (hd ▸ e) }

/-- Counting in the open-sweep record touches no relation that speaks of its target, mode, number and bleed
ratio. -/
theorem State.Controlled.withRecord {s : State} (h : s.Controlled) {r : OpenRecord}
    (ht : r.target = s.sweep.record.target) (hm : r.mode = s.sweep.record.mode)
    (hn : r.number = s.sweep.record.number) (hb : r.bleed = s.sweep.record.bleed) :
    State.Controlled { s with sweep := { s.sweep with record := r } } :=
  { h with
    sweepInOpenRun := fun hp => by rw [ht, hm]; exact h.sweepInOpenRun hp
    bleedCaptured := fun hp => by rw [hb]; exact h.bleedCaptured hp
    commitInFlight := by rw [ht, hn]; exact h.commitInFlight }

/-- The idle timer runs anew in an open sweep (R73). -/
theorem State.Controlled.restartIdle {s : State} (h : s.Controlled) (hp : s.sweep.phase = .opened) :
    s.restartIdle.Controlled :=
  { h with timerInOpen := by simp [hp] }

/-- A rate window stands in an open sweep (R72). -/
theorem State.Controlled.withWindow {s : State} (h : s.Controlled) (hp : s.sweep.phase = .opened)
    (w : Option RateWindow) : State.Controlled { s with sweep := { s.sweep with rateWindow := w } } :=
  { h with timerInOpen := ⟨h.timerInOpen.1, fun _ => hp⟩ }

theorem State.Controlled.arriveRead {s : State} (h : s.Controlled) (r : DeliveredRead) :
    (s.arriveRead r).Controlled := by
  unfold State.arriveRead
  split
  · exact h.withQueue h.queueWhileFolding rfl
  · split
    next hp _ =>
      split
      · refine State.Controlled.offerCopy ?_ _
        have h1 := (h.restartIdle hp).withWindow hp (s.sweep.rateWindow.map RateWindow.countRead)
        have h2 := h1.withRecord (r := s.sweep.record.countAccepted) rfl rfl rfl rfl
        exact h2.withQueue (p := { s.port with queue := s.port.queue ++ [_] })
          (by simp [hp, SweepPhase.folds]) rfl
      · exact (h.withRecord (r := s.sweep.record.countDropped) rfl rfl rfl rfl).withQueue
          (p := s.port.drop) h.queueWhileFolding rfl
    · exact h

theorem State.Controlled.deliverCount {s : State} (h : s.Controlled) (hp : s.sweep.phase = .opened)
    (target : Loc) : (s.deliverCount target).Controlled := by
  unfold State.deliverCount
  dsimp only
  split
  · exact h.restartIdle hp
  · split
    · exact ((h.restartIdle hp).withWindow hp _).evaluate _ _ _ _
    · exact h.restartIdle hp

theorem State.Controlled.moveCounter {s : State} (h : s.Controlled) (hp : s.sweep.phase = .opened)
    (d : Direction) (target : Loc) : (s.moveCounter d target).Controlled := by
  unfold State.moveCounter
  dsimp only
  have h1 : State.Controlled { s with
      port := { s.port with position := movePosition d (s.table.pMax.getD 0) s.port.position } } :=
    h.withQueue h.queueWhileFolding rfl
  have h2 := h1.withRecord (r := { s.sweep.record with
    facts := { s.sweep.record.facts with
      overtravel := s.sweep.record.facts.overtravel ||
        clampsAtMax d (s.table.pMax.getD 0) s.port.position } }) rfl rfl rfl rfl
  exact h2.deliverCount hp target

theorem State.Controlled.pressTrigger {s : State} (h : s.Controlled) (hd : s.port.dormancy = .awake) :
    s.pressTrigger.Controlled := by
  unfold State.pressTrigger
  split
  next hp =>
    unfold State.openAttempt
    split
    next hr => exact h.openSweep _ hr.1 hp hd
    · exact h.buzz _
  next hp => exact h.endSweep hp
  · exact h.buzz _

theorem State.Controlled.pressCall {s : State} (h : s.Controlled) : s.pressCall.Controlled := by
  unfold State.pressCall
  split
  · exact h
  · exact h.report _

/-- A fold changes sightings where they may stand, and marks entries (R71). -/
theorem State.Controlled.foldRead {s : State} (h : s.Controlled) (hp : s.sweep.phase.folds = true)
    (r : StampedRead) : (s.foldRead r).Controlled := by
  have hc : s.sweep.phase.claims = true := by
    revert hp
    cases s.sweep.phase <;> simp [SweepPhase.folds, SweepPhase.claims]
  have hs : ∀ xs ys, State.Controlled { s with
      sweep := { s.sweep with sightings := xs, record := s.sweep.record.noteFrozen ys } } := fun xs ys =>
    { h.withRecord (r := s.sweep.record.noteFrozen ys) rfl rfl rfl rfl with
      tableWhileClaimed := fun hn => by simp [hc] at hn }
  unfold State.foldRead
  dsimp only
  split
  · exact hs _ _
  split
  · exact { hs _ _ with }
  · exact h.withRecord rfl rfl rfl rfl

theorem State.Controlled.handOff {s : State} (h : s.Controlled) {target : Loc} (mode : SweepMode)
    (bleed : Nat) (hp : s.sweep.phase = .finalize) (hq : s.port.queue = [])
    (ht : s.sweep.record.target = some target) : (s.handOff target mode bleed).Controlled := by
  obtain ⟨hi, hw⟩ := h.noTimer (by simp [hp])
  refine State.Controlled.evaluate ?_ _ _ _ _
  exact { h with
    sweepInOpenRun := fun _ => h.sweepInOpenRun (by simp [hp])
    queueWhileFolding := fun _ => hq
    tableWhileClaimed := nofun
    timerInOpen := by simp [hi, hw]
    bleedCaptured := nofun
    commitInFlight := by simp [ht, makeCommit]
    shelfJobInOrder := by simpa [hp] using h.shelfJobInOrder
    dormantWhenIdle := fun hd => absurd (h.dormantWhenIdle hd).1 (by simp [hp]) }

/-- Every effect keeps the relations. -/
theorem Effect.controlled {s u : State} (he : Effect s u) (h : s.Controlled) : u.Controlled := by
  cases he with
  | replied u w code fields hf =>
    obtain ⟨hu, hl, -⟩ := hf.controlled h
    exact hu.place hl w code fields
  | performed u _ hf ha =>
    obtain ⟨hu, hl, hd⟩ := hf.controlled h
    exact (ha.controlled hu hl hd).1
  | performedReplied u a w fields hf ha =>
    obtain ⟨hu, hl, hd⟩ := hf.controlled h
    obtain ⟨hau, hal⟩ := ha.controlled hu hl hd
    exact hau.place hal w .OK fields
  | filing r c t st w d hc =>
    obtain ⟨hs, hr, -, hb⟩ := hc
    exact h.withLink ⟨fun _ => ⟨hr, _, _, _, _, _, _, hs⟩, by simp [hb], h.allowanceReserved⟩
      (fun hd => (h.dormantWhenIdle hd).2)
  | barrierWaits scope d hc =>
    obtain ⟨hs, hr, hfil, -⟩ := hc
    refine h.withLink ⟨by simp [hfil], fun b hb => ?_, h.allowanceReserved⟩
      (fun hd => (h.dormantWhenIdle hd).2)
    cases hb
    exact ⟨hr, d, hs⟩
  | fetch count d hc =>
    obtain ⟨hu, hl, -⟩ := (Frees.taken _ _ hc).controlled h
    exact hu.fetch hl count d
  | character c => exact h.receive c
  | transmissionEnd => exact { h with }
  | read r => exact h.arriveRead r
  | shelfCount d t hp => exact h.moveCounter hp d _
  | looseCount hp => exact h.restartIdle hp
  | trigger => exact (h.wake _).pressTrigger (by simp)
  | call => exact (h.wake _).pressCall
  | switch p => exact { h with }
  | patternEnd => exact { h with }
  | idleExpiry hp => exact ((h.abandonSweep (.inl hp)).report _).buzz _
  | fold r rest hp hq =>
    exact (h.withQueue (p := { s.port with queue := rest }) (by simp [hp]) rfl).foldRead hp r
  | handOff target mode bleed hp hq ht => exact h.handOff mode bleed hp hq ht
  | commit c hp => exact h.commitEvent hp
  | shelfJob t hj => exact h.completeShelfJob hj
  | runJob hj => exact h.completeRunJob hj

/-- The relations hold at power-on. -/
theorem State.powerOn_controlled (strap : BaudRate) (switch : SwitchPosition) (pending : List Instr) :
    (State.powerOn strap switch pending).Controlled := by
  constructor <;>
    simp [State.powerOn, SweepUnit.cleared, CountTable.cleared, OrderUnit.cleared, LinkUnit.start]

/-- Settles O5: every effect keeps the relations, and so does the transmitter behind it. -/
theorem controlIsKept : Obligations.ControlIsKept := by
  intro s t hs h
  exact step_keeps (H := State.Controlled) (fun _ _ hs => { hs with }) (fun _ hs => hs)
    State.powerOn_controlled (fun _ _ hs he => (he.controlled hs).pump) hs h

end Sys2Proof.Machine
end

section
/-! SUPPORT. What the commit does offer by offer, said once, and the location records. -/

namespace Sys2Proof.Machine

/-! ## One offer applied (R95 to R98) -/

/-- What one offer of a commit can do to the work: it finds no entry, is kept, placed, moved in, added or
dropped. -/
inductive Applies (g : Option Geometry) (c : Commit) (before : List Entry) (o : Offer) (w : CommitWork) :
    CommitWork → Prop
  | lost (rank : Nat) (hk : o.kind = .listed rank) (hn : w.entries.find? (fun e => e.rank == rank) = none) :
      Applies g c before o w w
  | keptListed (rank : Nat) (e : Entry) (hk : o.kind = .listed rank)
      (he : w.entries.find? (fun e => e.rank == rank) = some e)
      (ho : offerOutcome g c.target o e.placement = .kept) :
      Applies g c before o w { w with outcomes := w.outcomes.count c.target o .kept }
  | placedListed (rank : Nat) (e : Entry) (x : OfferOutcome) (hk : o.kind = .listed rank)
      (he : w.entries.find? (fun e => e.rank == rank) = some e)
      (ho : offerOutcome g c.target o e.placement = x) (hx : x ≠ .kept) :
      Applies g c before o w { w with
        entries := w.entries.map (fun y =>
          if y.rank == rank then y.accept (o.placement c.target c.number) else y)
        affected := affectedBy c.target e.placement ++ w.affected
        reached := rank :: w.reached
        wsns := if e.watch then w.wsns ++ [wsnReport c before o e] else w.wsns
        outcomes := w.outcomes.count c.target o x }
  | keptForeign (f : ForeignEntry) (hk : o.kind = .foreign)
      (hf : w.foreign.find? (fun f => f.code == o.code) = some f)
      (ho : offerOutcome g c.target o (some f.placement) = .kept) :
      Applies g c before o w { w with
        foreign := w.foreign.map (fun y => if y.code == o.code then
          { y with placement := f.placement, sighted := satInc Config.count8Max y.sighted } else y)
        outcomes := w.outcomes.count c.target o .kept }
  | movedForeign (f : ForeignEntry) (x : OfferOutcome) (hk : o.kind = .foreign)
      (hf : w.foreign.find? (fun f => f.code == o.code) = some f)
      (ho : offerOutcome g c.target o (some f.placement) = x) (hx : x ≠ .kept) :
      Applies g c before o w { w with
        foreign := w.foreign.map (fun y => if y.code == o.code then
          { y with placement := o.placement c.target c.number, sighted := satInc Config.count8Max y.sighted }
          else y)
        affected := affectedBy c.target (some f.placement) ++ w.affected
        outcomes := w.outcomes.count c.target o x }
  | addedForeign (hk : o.kind = .foreign) (hn : w.foreign.find? (fun f => f.code == o.code) = none)
      (hroom : w.foreign.length < Config.foreignListSize) :
      Applies g c before o w { w with
        foreign := w.foreign ++
          [{ code := o.code, placement := o.placement c.target c.number, sighted := 1 }]
        affected := c.target :: w.affected
        outcomes := w.outcomes.count c.target o .placed }
  | droppedForeign (hk : o.kind = .foreign) (hn : w.foreign.find? (fun f => f.code == o.code) = none)
      (hfull : Config.foreignListSize ≤ w.foreign.length) :
      Applies g c before o w { w with
        overflow := satInc Config.count8Max w.overflow
        outcomes := w.outcomes.count c.target o .dropped }

theorem CommitWork.applyOffer_applies (g : Option Geometry) (c : Commit) (before : List Entry)
    (w : CommitWork) (o : Offer) : Applies g c before o w (w.applyOffer g c before o) := by
  unfold CommitWork.applyOffer
  split
  next rank hk =>
    unfold CommitWork.applyListed
    split
    next hn => exact .lost rank hk hn
    next e he =>
      dsimp only
      split
      next ho =>
        rw [ho]
        exact .keptListed rank e hk he ho
      next hx => exact .placedListed rank e _ hk he rfl hx
  next hk =>
    unfold CommitWork.applyForeign
    split
    next f hf =>
      unfold CommitWork.applyFound
      dsimp only
      by_cases ho : offerOutcome g c.target o (some f.placement) = .kept
      · simp only [ho, if_true]
        exact .keptForeign f hk hf ho
      · simp only [ho, if_false]
        exact .movedForeign f _ hk hf rfl ho
    next hn =>
      split
      next hroom => exact .addedForeign hk hn hroom
      next hfull => exact .droppedForeign hk hn (by omega)

/-- The work before the first offer: a RECOUNT has vacated its target (R93, R94). -/
def CountTable.offersStart (t : CountTable) (c : Commit) : CommitWork :=
  match c.mode with
  | .recount => t.commitStart.vacate c.target
  | .new => t.commitStart

/-- What holds before the first offer, and after each offer when it held before, holds after the last. The
offers already applied are those `done`. -/
theorem CountTable.applyOffers_induction {P : List Offer → CommitWork → Prop} (t : CountTable) (c : Commit)
    (hstart : P [] (t.offersStart c))
    (hstep : ∀ done o rest w w', c.offers = done ++ o :: rest → P done w →
      Applies t.geometry c t.entries o w w' → P (done ++ [o]) w') :
    P c.offers (t.applyOffers c) := by
  have hfold : ∀ rest done w, c.offers = done ++ rest → P done w →
      P c.offers (rest.foldl (CommitWork.applyOffer t.geometry c t.entries) w) := by
    intro rest
    induction rest with
    | nil =>
      intro done w hc hP
      simpa [hc] using hP
    | cons o rest ih =>
      intro done w hc hP
      exact ih (done ++ [o]) _ (by simp [hc])
        (hstep done o rest w _ hc hP (w.applyOffer_applies t.geometry c t.entries o))
  exact hfold c.offers [] (t.offersStart c) rfl hstart

/-! ## Location records (R11, section 1.3) -/

/-- The record of a location of the run stands in one of the two lists. -/
def CountTable.hasRecord (c : CountTable) : Loc → Bool
  | .shelf 0 => false
  | .shelf (t + 1) => decide (t < c.shelves.length)
  | .loose 0 => false
  | .loose (i + 1) => decide (i < c.loose.length)

/-- What is read of a record that has been replaced. -/
theorem CountTable.recordAt_setRecord_same {c : CountTable} {l : Loc} (h : c.hasRecord l = true)
    (r : LocRecord) : (c.setRecord l r).recordAt l = r := by
  cases l with
  | shelf t =>
    cases t with
    | zero => simp [CountTable.hasRecord] at h
    | succ t => simp_all [CountTable.hasRecord, CountTable.setRecord, CountTable.recordAt]
  | loose i =>
    cases i with
    | zero => simp [CountTable.hasRecord] at h
    | succ i => simp_all [CountTable.hasRecord, CountTable.setRecord, CountTable.recordAt]

/-- The replacement of a record leaves every other one. -/
theorem CountTable.recordAt_setRecord_other (c : CountTable) {l m : Loc} (h : m ≠ l) (r : LocRecord) :
    (c.setRecord l r).recordAt m = c.recordAt m := by
  rcases l with (_ | t) | (_ | i) <;> rcases m with (_ | u) | (_ | j) <;>
    simp_all [CountTable.setRecord, CountTable.recordAt, List.getElem?_set]
  all_goals rw [if_neg (fun e => h e.symm)]

/-- A record is the cleared one or stands in one of the two lists. -/
theorem CountTable.recordAt_mem (c : CountTable) (l : Loc) :
    c.recordAt l = LocRecord.cleared ∨ c.recordAt l ∈ c.shelves ++ c.loose := by
  have hlist : ∀ (xs : List LocRecord) i,
      xs.getD i LocRecord.cleared = LocRecord.cleared ∨ xs.getD i LocRecord.cleared ∈ xs := by
    intro xs i
    by_cases hi : i < xs.length
    · exact .inr (by simp [hi])
    · exact .inl (by simp [List.getElem?_eq_none (Nat.le_of_not_lt hi)])
  rcases l with (_ | t) | (_ | i)
  · exact .inl rfl
  · exact (hlist c.shelves t).imp_right (List.mem_append_left _)
  · exact .inl rfl
  · exact (hlist c.loose i).imp_right (List.mem_append_right _)

end Sys2Proof.Machine
end

section
/-! SUPPORT. The capacities and ranges are kept by every step. -/

namespace Sys2Proof.Machine

/-! ## Counters, sightings, outcomes -/

theorem satInc_le (top n : Nat) : satInc top n ≤ top := by
  unfold satInc
  split <;> omega

theorem satInc_pos {top n : Nat} (ht : 1 ≤ top) : 1 ≤ satInc top n := by
  unfold satInc
  split <;> omega

theorem nextSweepNumber_le (n : Nat) : nextSweepNumber n ≤ Config.count16Max := by
  unfold nextSweepNumber Config.count16Max
  split <;> omega

theorem nextCounter_le (b : Bool) (n : Nat) : nextCounter b n ≤ Config.durationMax := by
  unfold nextCounter
  split
  · exact satInc_le _ _
  · exact Nat.zero_le _

/-- The additions of a read are small beside a branch: a weight is at most 255, a position at most 1350 (R86). -/
def Additions.Small (a : Additions) : Prop := a.moment ≤ 344250 ∧ a.front ≤ 255 ∧ a.back ≤ 255

theorem additionsOf_small (antenna : Antenna) (floor : Nat) (strength : BitVec 8) {position : Nat}
    (hp : position ≤ 1350) : (additionsOf antenna (readWeight floor strength) position).Small := by
  have hw : readWeight floor strength ≤ 255 := by
    unfold readWeight
    omega
  cases antenna with
  | front =>
    have hm : readWeight floor strength * position ≤ 255 * 1350 := Nat.mul_le_mul hw hp
    exact ⟨hm, hw, Nat.zero_le _⟩
  | back => exact ⟨Nat.zero_le _, Nat.zero_le _, hw⟩

/-- A fold keeps the branches, the scale and the read count of a sighting in range (R85 to R88). -/
theorem Sighting.InRange.fold {x : Sighting} (h : x.InRange) {a : Additions} (ha : a.Small) :
    (x.fold a).InRange := by
  obtain ⟨hm, hf, hb, hs, -⟩ := h
  obtain ⟨am, af, ab⟩ := ha
  have hacc : (x.accumulate a).moment ≤ Config.branchMax ∧ (x.accumulate a).front ≤ Config.branchMax ∧
      (x.accumulate a).back ≤ Config.branchMax ∧ (x.accumulate a).scale ≤ Config.scaleMax := by
    unfold Sighting.accumulate
    split
    · exact ⟨hm, hf, hb, hs⟩
    split
    next hfit =>
      simp only [Sighting.fits, Bool.and_eq_true, decide_eq_true_eq] at hfit
      exact ⟨hfit.1.1, hfit.1.2, hfit.2, hs⟩
    split
    next hscale =>
      simp only [Sighting.halve, Sighting.add, Config.branchMax] at *
      omega
    · exact ⟨hm, hf, hb, hs⟩
  obtain ⟨h1, h2, h3, h4⟩ := hacc
  exact ⟨h1, h2, h3, h4, satInc_le _ _⟩

theorem newSighting_inRange (code : ItemCode) (kind : SightingKind) : (newSighting code kind).InRange := by
  simp [newSighting, Sighting.InRange]

/-- Every outcome count is at most n. -/
def Outcomes.AtMost (n : Nat) (o : Outcomes) : Prop :=
  o.newPlacements ≤ n ∧ o.movedIn ≤ n ∧ o.keptElsewhere ≤ n ∧ o.foreign ≤ n ∧ o.foreignDropped ≤ n ∧
  o.heard ≤ n

theorem Outcomes.AtMost.mono {m n : Nat} {o : Outcomes} (h : o.AtMost m) (hmn : m ≤ n) : o.AtMost n := by
  unfold Outcomes.AtMost at *
  omega

/-- One offer adds at most one to each count (R101). -/
theorem Outcomes.AtMost.count {n : Nat} {c : Outcomes} (h : c.AtMost n) (target : Loc) (o : Offer)
    (x : OfferOutcome) : (c.count target o x).AtMost (n + 1) := by
  obtain ⟨h1, h2, h3, h4, h5, h6⟩ := h
  unfold Outcomes.count Outcomes.AtMost
  dsimp only
  refine ⟨?_, ?_, ?_, ?_, ?_, ?_⟩ <;> split <;> omega

/-! ## The work of a commit -/

/-- The foreign list and its overflow are in their ranges (R97). -/
def ForeignInRange (foreign : List ForeignEntry) (overflow : Nat) : Prop :=
  foreign.length ≤ Config.foreignListSize ∧ overflow ≤ Config.count8Max ∧
  ∀ f ∈ foreign, 1 ≤ f.sighted ∧ f.sighted ≤ Config.count8Max

/-- A foreign entry sighted once more is in range, whatever placement it takes. -/
theorem ForeignInRange.sightedAgain {foreign : List ForeignEntry} {overflow : Nat}
    (h : ForeignInRange foreign overflow) (code : ItemCode) (p : Placement) :
    ForeignInRange (foreign.map (fun y => if y.code == code then
      { y with placement := p, sighted := satInc Config.count8Max y.sighted } else y)) overflow := by
  obtain ⟨hlen, hover, hsight⟩ := h
  refine ⟨by simpa using hlen, hover, fun f hf => ?_⟩
  obtain ⟨y, hy, rfl⟩ := List.mem_map.mp hf
  split
  · exact ⟨satInc_pos (by decide), satInc_le _ _⟩
  · exact hsight y hy

/-- The counts of a work after as many offers, and its foreign list. -/
theorem CountTable.applyOffers_inRange {t : CountTable} (h : ForeignInRange t.foreign t.overflow)
    (c : Commit) :
    (t.applyOffers c).outcomes.AtMost c.offers.length ∧
    ForeignInRange (t.applyOffers c).foreign (t.applyOffers c).overflow := by
  refine t.applyOffers_induction c
    (P := fun done w => w.outcomes.AtMost done.length ∧ ForeignInRange w.foreign w.overflow) ?_ ?_
  · obtain ⟨hlen, hover, hsight⟩ := h
    unfold CountTable.offersStart
    split
    · refine ⟨by simp [CommitWork.vacate, CountTable.commitStart, Outcomes.zero, Outcomes.AtMost],
        (List.length_filter_le _ _).trans hlen, hover, fun f hf => ?_⟩
      exact hsight f (List.mem_filter.mp hf).1
    · exact ⟨by simp [CountTable.commitStart, Outcomes.zero, Outcomes.AtMost], hlen, hover, hsight⟩
  · intro done o rest w w' _ ⟨ho, hf⟩ ha
    rw [List.length_append, List.length_singleton]
    cases ha with
    | lost => exact ⟨ho.mono (by omega), hf⟩
    | keptListed => exact ⟨ho.count _ _ _, hf⟩
    | placedListed => exact ⟨ho.count _ _ _, hf⟩
    | keptForeign f hk hfind => exact ⟨ho.count _ _ _, hf.sightedAgain _ _⟩
    | movedForeign f x hk hfind => exact ⟨ho.count _ _ _, hf.sightedAgain _ _⟩
    | addedForeign hk hn hroom =>
      obtain ⟨hlen, hover, hsight⟩ := hf
      refine ⟨ho.count _ _ _, by simpa using hroom, hover, fun f hf => ?_⟩
      rcases List.mem_append.mp hf with hf | hf
      · exact hsight f hf
      · rw [List.mem_singleton.mp hf]
        exact ⟨le_rfl, (by decide : 1 ≤ Config.count8Max)⟩
    | droppedForeign =>
      obtain ⟨hlen, -, hsight⟩ := hf
      exact ⟨ho.count _ _ _, hlen, satInc_le _ _, hsight⟩

/-! ## Location records -/

/-- The counts of a location record are in their ranges (R11). -/
def LocRecord.InRange (r : LocRecord) : Prop :=
  r.sweepCount ≤ Config.count8Max ∧ r.lastSweep ≤ Config.count16Max ∧ r.facts.InRange

/-- The 96 and the 8 location records are there and in their ranges. -/
def CountTable.RecordsInRange (c : CountTable) : Prop :=
  c.shelves.length = Config.shelfRecords ∧ c.loose.length = Config.looseRecords ∧
  ∀ r ∈ c.shelves ++ c.loose, r.InRange

theorem LocRecord.cleared_inRange : LocRecord.cleared.InRange := by
  simp [LocRecord.cleared, LocRecord.InRange, SweepFacts.InRange, SweepFacts.cleared]

theorem CountTable.RecordsInRange.recordAt {c : CountTable} (h : c.RecordsInRange) (l : Loc) :
    (c.recordAt l).InRange := by
  rcases c.recordAt_mem l with hr | hr
  · rw [hr]
    exact LocRecord.cleared_inRange
  · exact h.2.2 _ hr

theorem CountTable.RecordsInRange.setRecord {c : CountTable} (h : c.RecordsInRange) (l : Loc)
    {r : LocRecord} (hr : r.InRange) : (c.setRecord l r).RecordsInRange := by
  obtain ⟨hs, hl, hall⟩ := h
  have hset : ∀ (xs : List LocRecord) i, (∀ x ∈ xs, x.InRange) → ∀ x ∈ xs.set i r, x.InRange := by
    intro xs i hxs x hx
    rcases List.mem_or_eq_of_mem_set hx with hx | rfl
    · exact hxs x hx
    · exact hr
  have hshelves : ∀ x ∈ c.shelves, x.InRange := fun x hx => hall x (List.mem_append_left _ hx)
  have hloose : ∀ x ∈ c.loose, x.InRange := fun x hx => hall x (List.mem_append_right _ hx)
  rcases l with (_ | t) | (_ | i)
  · exact ⟨hs, hl, hall⟩
  · refine ⟨by simpa [CountTable.setRecord] using hs, hl, fun x hx => ?_⟩
    exact (List.mem_append.mp hx).elim (hset _ _ hshelves x) (hloose x)
  · exact ⟨hs, hl, hall⟩
  · refine ⟨hs, by simpa [CountTable.setRecord] using hl, fun x hx => ?_⟩
    exact (List.mem_append.mp hx).elim (hshelves x) (hset _ _ hloose x)

/-- The cleared records are in range. -/
theorem CountTable.cleared_recordsInRange : CountTable.cleared.RecordsInRange := by
  refine ⟨by simp [CountTable.cleared], by simp [CountTable.cleared], fun r hr => ?_⟩
  have hc : r = LocRecord.cleared :=
    (List.mem_append.mp hr).elim List.eq_of_mem_replicate List.eq_of_mem_replicate
  rw [hc]
  exact LocRecord.cleared_inRange

/-- The cursor after a commit is 0 or a shelf of the run (R13). -/
theorem CountTable.nextCursor_le (c : CountTable) (t : Nat) : c.nextCursor t ≤ c.shelfCount := by
  have hmem : ∀ u ∈ c.shelfNumbers, u ≤ c.shelfCount := by
    intro u hu
    obtain ⟨i, hi, rfl⟩ := List.mem_map.mp hu
    have := List.mem_range.mp hi
    omega
  unfold CountTable.nextCursor
  split
  next u hu => exact hmem u (List.mem_of_find?_eq_some hu)
  · unfold CountTable.lowestUnswept
    cases hf : c.shelfNumbers.find? (fun t => c.sweepCount t == 0) with
    | none => exact Nat.zero_le _
    | some u => exact hmem u (List.mem_of_find?_eq_some hf)

@[simp] theorem CountTable.setRecord_shelfCount (c : CountTable) (l : Loc) (r : LocRecord) :
    (c.setRecord l r).shelfCount = c.shelfCount := by
  simp [CountTable.shelfCount]
@[simp] theorem CountTable.setRecord_cursor (c : CountTable) (l : Loc) (r : LocRecord) :
    (c.setRecord l r).cursor = c.cursor := by
  unfold CountTable.setRecord; split <;> rfl
@[simp] theorem CountTable.setRecord_entries (c : CountTable) (l : Loc) (r : LocRecord) :
    (c.setRecord l r).entries = c.entries := by
  unfold CountTable.setRecord; split <;> rfl
@[simp] theorem CountTable.setRecord_foreign (c : CountTable) (l : Loc) (r : LocRecord) :
    (c.setRecord l r).foreign = c.foreign := by
  unfold CountTable.setRecord; split <;> rfl
@[simp] theorem CountTable.setRecord_overflow (c : CountTable) (l : Loc) (r : LocRecord) :
    (c.setRecord l r).overflow = c.overflow := by
  unfold CountTable.setRecord; split <;> rfl
@[simp] theorem CountTable.setRecord_load (c : CountTable) (l : Loc) (r : LocRecord) :
    (c.setRecord l r).load = c.load := by
  unfold CountTable.setRecord; split <;> rfl
@[simp] theorem CountTable.setRecord_sweepNumber (c : CountTable) (l : Loc) (r : LocRecord) :
    (c.setRecord l r).sweepNumber = c.sweepNumber := by
  unfold CountTable.setRecord; split <;> rfl

/-- A cursor move changes the cursor alone. -/
theorem CountTable.moveCursor_eq (c : CountTable) (l : Loc) :
    c.moveCursor l = { c with cursor := (c.moveCursor l).cursor } := by
  unfold CountTable.moveCursor; split <;> rfl

theorem CountTable.moveCursor_cursor_le {c : CountTable} (h : c.cursor ≤ c.shelfCount) (l : Loc) :
    (c.moveCursor l).cursor ≤ c.shelfCount := by
  unfold CountTable.moveCursor
  split
  · exact c.nextCursor_le _
  · exact h

/-- S, which the tables of one geometry share. -/
theorem CountTable.shelfCount_congr {c d : CountTable} (h : c.geometry = d.geometry) :
    c.shelfCount = d.shelfCount := by
  simp [CountTable.shelfCount, h]

/-! ## The parts of the table in their ranges -/

/-- The part of `State.Capacities` that speaks of the Count Table alone. -/
structure CountTable.InRange (c : CountTable) : Prop where
  geometry    : ∀ g, c.geometry = some g → g.InRange
  foreign     : ForeignInRange c.foreign c.overflow
  records     : c.RecordsInRange
  cursor      : c.cursor ≤ c.shelfCount
  sweepNumber : c.sweepNumber ≤ Config.count16Max

theorem State.Capacities.table {s : State} (h : s.Capacities) : s.table.InRange :=
  ⟨h.geometry, h.foreign, h.records, h.cursor, h.sweepNumber⟩

theorem State.Capacities.withTable {s : State} (h : s.Capacities) {c : CountTable} (hc : c.InRange) :
    State.Capacities { s with table := c } :=
  { h with
    geometry := hc.geometry
    foreign := hc.foreign
    records := hc.records
    cursor := hc.cursor
    sweepNumber := hc.sweepNumber }

theorem CountTable.cleared_inRange : CountTable.cleared.InRange where
  geometry := nofun
  foreign := ⟨Nat.zero_le _, Nat.zero_le _, nofun⟩
  records := CountTable.cleared_recordsInRange
  cursor := le_rfl
  sweepNumber := Nat.zero_le _

theorem CountTable.InRange.setRecord {c : CountTable} (h : c.InRange) (l : Loc) {r : LocRecord}
    (hr : r.InRange) : (c.setRecord l r).InRange where
  geometry := by simpa using h.geometry
  foreign := by simpa using h.foreign
  records := h.records.setRecord l hr
  cursor := by simpa using h.cursor
  sweepNumber := by simpa using h.sweepNumber

theorem CountTable.InRange.abandon {c : CountTable} (h : c.InRange) (l : Loc) (ranks : List Nat) :
    (c.abandon l ranks).InRange := by
  have hm : CountTable.InRange { c with
      entries := c.entries.map (fun e => Entry.settleReturned l (e.clearInSweep ranks)) } := { h with }
  exact hm.setRecord l (r := (c.recordAt l).leaveSweeping) (h.records.recordAt l)

theorem CountTable.InRange.commit {t : CountTable} (h : t.InRange) {c : Commit}
    (hn : c.number ≤ Config.count16Max) (hf : c.facts.InRange) :
    (t.commit c (t.applyOffers c)).InRange := by
  have hw := (t.applyOffers_inRange h.foreign c).2
  have h1 : CountTable.InRange { t with
      entries := (t.applyOffers c).entries.map (Entry.settle c (t.applyOffers c))
      foreign := (t.applyOffers c).foreign, overflow := (t.applyOffers c).overflow } :=
    { h with foreign := hw }
  have h2 := h1.setRecord c.target (r := (t.recordAt c.target).committed c) ⟨satInc_le _ _, hn, hf⟩
  unfold CountTable.commit
  rw [CountTable.moveCursor_eq]
  exact { h2 with cursor := CountTable.moveCursor_cursor_le h2.cursor c.target }

end Sys2Proof.Machine
end

section
namespace Sys2Proof.Machine

/-! ## The link's queues -/

/-- The part of `State.Capacities` that speaks of the Link Unit alone. -/
structure LinkUnit.InRange (l : LinkUnit) : Prop where
  buffer    : l.buffer.length ≤ Config.bufferSize
  refusals  : l.refusals.length ≤ Config.refusalQueueSize ∧ l.refusalsLost ≤ Config.count8Max
  reports   : l.reports.length ≤ Config.reportQueueSize ∧ l.reportsDropped ≤ Config.count8Max
  allowance : l.allowance ≤ 16
  settings  : l.settings.InRange

theorem State.Capacities.link {s : State} (h : s.Capacities) : s.link.InRange :=
  ⟨h.buffer, h.refusals, h.reports, h.allowance, h.settings⟩

theorem State.Capacities.withLink {s : State} (h : s.Capacities) {l : LinkUnit} (hl : l.InRange) :
    State.Capacities { s with link := l } :=
  { h with
    buffer := hl.buffer
    refusals := hl.refusals
    reports := hl.reports
    allowance := hl.allowance
    settings := hl.settings }

theorem LinkUnit.InRange.queueReport {l : LinkUnit} (h : l.InRange) (r : Report) :
    (l.queueReport r).InRange := by
  unfold LinkUnit.queueReport
  split
  next hroom => exact { h with reports := ⟨by simpa using hroom, h.reports.2⟩ }
  · exact { h with reports := ⟨h.reports.1, satInc_le _ _⟩ }

theorem LinkUnit.InRange.queueRefusal {l : LinkUnit} (h : l.InRange) (r : Reply) :
    (l.queueRefusal r).InRange := by
  unfold LinkUnit.queueRefusal
  split
  next hroom => exact { h with refusals := ⟨by simpa using hroom, h.refusals.2⟩ }
  · exact { h with refusals := ⟨h.refusals.1, satInc_le _ _⟩ }

theorem LinkUnit.InRange.storeChar {l : LinkUnit} (h : l.InRange) (c : Byte) : (l.storeChar c).InRange := by
  unfold LinkUnit.storeChar
  split
  · exact h
  split
  · exact h
  split
  next hroom => exact { h with buffer := by simpa using hroom }
  · exact { h with }

theorem LinkUnit.InRange.completeRecord {l : LinkUnit} (h : l.InRange) (d : Terminator) :
    (l.completeRecord d).InRange := by
  have hc : LinkUnit.InRange { l with buffer := [], parser := .awaitWord } :=
    { h with buffer := Nat.zero_le _ }
  unfold LinkUnit.completeRecord
  dsimp only
  repeat' split
  · exact hc.queueRefusal _
  · exact hc.queueRefusal _
  · exact hc.queueRefusal _
  · exact hc.queueRefusal _
  · exact { hc with }

/-- The transmitter takes records out of the queues and puts none in. -/
theorem LinkUnit.InRange.pump {l : LinkUnit} (h : l.InRange) : l.pump.InRange := by
  have hlen : ∀ {α : Type} {x : α} {xs ys : List α} {n : Nat}, ys = x :: xs → ys.length ≤ n → xs.length ≤ n := by
    rintro α x xs ys n rfl hn
    exact (Nat.le_succ _).trans hn
  rcases l.pump_cases with hp | ⟨r, -, hr, hp⟩ | ⟨r, rest, -, -, -, hq, hp⟩ |
      ⟨r, rest, -, -, -, -, hq, ha, hp⟩ | ⟨r, rest, -, -, -, -, hq, ha, -, hp⟩ <;> rw [hp]
  · exact h
  · exact { h with }
  · exact { h with refusals := ⟨hlen hq h.refusals.1, h.refusals.2⟩ }
  · rw [LinkUnit.countFetched_eq]
    exact { h with
      reports := ⟨hlen hq h.reports.1, h.reports.2⟩
      allowance := by simpa [LinkUnit.beginReport] using h.allowance.trans (by omega) }
  · exact { h with reports := ⟨hlen hq h.reports.1, h.reports.2⟩ }

theorem State.Capacities.pump {s : State} (h : s.Capacities) : s.pump.Capacities := by
  rcases s.pump_cases with ⟨_, _, hp⟩ | ⟨_, hp⟩ <;> rw [hp]
  · exact h
  · exact h.withLink h.link.pump

/-! ## The shared operations -/

theorem State.Capacities.report {s : State} (h : s.Capacities) (r : Report) : (s.report r).Capacities :=
  h.withLink (h.link.queueReport r)

theorem State.Capacities.reportAll {s : State} (h : s.Capacities) (rs : List Report) :
    (s.reportAll rs).Capacities := by
  induction rs generalizing s with
  | nil => exact h
  | cons r rs ih => exact ih (h.report r)

theorem State.Capacities.place {s : State} (h : s.Capacities) (w : RequestWord) (code : StatusCode)
    (fields : List Field) : (s.place w code fields).Capacities :=
  { h with }

theorem State.Capacities.buzz {s : State} (h : s.Capacities) (p : Pattern) : (s.buzz p).Capacities := by
  refine { h with buzzer := ?_ }
  have hw := h.buzzer
  unfold State.buzz Panel.buzz
  dsimp only
  split
  · exact hw
  · split
    next hroom => simpa using hroom
    · exact hw

/-- The conditions with thresholds in range and the counters of the monitor (R130, R135). -/
def Monitor.InRange (m : Monitor) : Prop :=
  m.counter ≤ Config.durationMax ∧ m.duration ≤ 15 ∧ ∀ c, (m.conds.get c).threshold ≤ 255

theorem State.Capacities.withMonitor {s : State} (h : s.Capacities) {m : Monitor} (hm : m.InRange) :
    State.Capacities { s with monitor := m } :=
  { h with monitor := hm }

@[simp] theorem Conditions.setState_threshold (c : Conditions) (x y : CondCode) (b : Bool) :
    ((c.setState x b).get y).threshold = (c.get y).threshold := by
  simp only [Conditions.setState, Conditions.get_put]
  split
  next e => rw [e]
  · rfl

@[simp] theorem Conditions.measure_threshold (c : Conditions) (ms : List (CondCode × Nat)) (y : CondCode) :
    ((c.measure ms).get y).threshold = (c.get y).threshold := by
  induction ms generalizing c with
  | nil => rfl
  | cons m ms ih => simp [Conditions.measure, ih]

theorem EvidenceBuffer.rise_keeps (e : EvidenceBuffer) :
    e.rise.records = e.records ∧ e.rise.watermark = e.watermark ∧ e.rise.mode = e.mode ∧
    e.rise.stopped = e.stopped := by
  unfold EvidenceBuffer.rise
  split <;> exact ⟨rfl, rfl, rfl, rfl⟩

theorem EvidenceBuffer.fall_keeps (e : EvidenceBuffer) :
    e.fall.records = e.records ∧ e.fall.watermark = e.watermark ∧ e.fall.mode = e.mode ∧
    e.fall.stopped = e.stopped := by
  unfold EvidenceBuffer.fall
  split <;> exact ⟨rfl, rfl, rfl, rfl⟩

/-- The part of `State.Capacities` that speaks of the Evidence Buffer. -/
def EvidenceBuffer.InRange (e : EvidenceBuffer) : Prop :=
  e.records.length ≤ Config.evidenceSize ∧ e.watermark ≤ 63 ∧
  (e.mode = .fill → e.stopped = false → e.records.length < Config.evidenceSize)

theorem State.Capacities.withEvidence {s : State} (h : s.Capacities) {e : EvidenceBuffer} (he : e.InRange) :
    State.Capacities { s with evidence := e } :=
  { h with evidence := he }

theorem EvidenceBuffer.InRange.rise {e : EvidenceBuffer} (h : e.InRange) : e.rise.InRange := by
  obtain ⟨h1, h2, h3, h4⟩ := e.rise_keeps
  unfold EvidenceBuffer.InRange
  rw [h1, h2, h3, h4]
  exact h

theorem EvidenceBuffer.InRange.fall {e : EvidenceBuffer} (h : e.InRange) : e.fall.InRange := by
  obtain ⟨h1, h2, h3, h4⟩ := e.fall_keeps
  unfold EvidenceBuffer.InRange
  rw [h1, h2, h3, h4]
  exact h

/-- A copy that rolls in replaces the oldest at the full count (R146). -/
theorem EvidenceBuffer.rollIn_length {e : EvidenceBuffer} (h : e.records.length ≤ Config.evidenceSize)
    (r : StampedRead) : (e.rollIn r).records.length ≤ Config.evidenceSize := by
  unfold EvidenceBuffer.rollIn EvidenceBuffer.append
  split
  next hroom => simpa using hroom
  · simp only [List.length_append, List.length_tail, List.length_singleton]
    simp only [Config.evidenceSize] at *
    omega

theorem EvidenceBuffer.rollIn_keeps (e : EvidenceBuffer) (r : StampedRead) :
    (e.rollIn r).watermark = e.watermark ∧ (e.rollIn r).mode = e.mode := by
  unfold EvidenceBuffer.rollIn
  split <;> exact ⟨rfl, rfl⟩

theorem EvidenceBuffer.InRange.rollIn {e : EvidenceBuffer} (h : e.InRange) (hm : e.mode ≠ .fill)
    (r : StampedRead) : (e.rollIn r).InRange := by
  obtain ⟨hw, hmode⟩ := e.rollIn_keeps r
  exact ⟨EvidenceBuffer.rollIn_length h.1 r, hw ▸ h.2.1, fun hf => absurd (hmode ▸ hf) hm⟩

theorem EvidenceBuffer.InRange.capture {e : EvidenceBuffer} (h : e.InRange) (r : StampedRead) :
    (e.capture r).InRange := by
  obtain ⟨hlen, hw, hfill⟩ := h
  unfold EvidenceBuffer.capture
  split
  · exact ⟨hlen, hw, hfill⟩
  next hm =>
    split
    · exact ⟨hlen, hw, hfill⟩
    next hs =>
      have hroom := hfill hm (by simpa using hs)
      refine ⟨by simpa [EvidenceBuffer.append] using hroom, hw, fun _ hstop => ?_⟩
      simpa using hstop
  next hm => exact EvidenceBuffer.InRange.rollIn ⟨hlen, hw, hfill⟩ (by simp [hm]) r
  next hm =>
    have hroll := EvidenceBuffer.InRange.rollIn ⟨hlen, hw, hfill⟩ (by simp [hm]) r
    split
    · exact ⟨hlen, hw, hfill⟩
    · dsimp only
      split
      · exact hroll
      · exact hroll
    · exact hroll
  next hm =>
    split
    · exact EvidenceBuffer.InRange.rollIn ⟨hlen, hw, hfill⟩ (by simp [hm]) r
    · exact ⟨hlen, hw, hfill⟩

theorem EvidenceBuffer.InRange.reset {e : EvidenceBuffer} (h : e.InRange) : e.reset.InRange :=
  ⟨Nat.zero_le _, h.2.1, nofun⟩

theorem Monitor.InRange.reset {m : Monitor} (h : m.InRange) : m.reset.InRange := by
  refine ⟨Nat.zero_le _, h.2.1, fun c => ?_⟩
  have hc := h.2.2 c
  cases c <;> exact hc

theorem State.Capacities.deactivate {s : State} (h : s.Capacities) : s.deactivate.Capacities :=
  (h.withMonitor (m := { s.monitor with active := false }) h.monitor).withEvidence
    (EvidenceBuffer.InRange.fall h.evidence)

theorem State.Capacities.activate {s : State} (h : s.Capacities) (r : SourceRecord) :
    (s.activate r).Capacities := by
  have h1 := (h.withMonitor (m := { s.monitor with active := true, source := some r }) h.monitor).withEvidence
    (EvidenceBuffer.InRange.rise h.evidence)
  exact (h1.report (.anm r)).buzz .longTone

theorem State.Capacities.evaluate {s : State} (h : s.Capacities) (k : EvalKind) (l : Loc) (n : Nat)
    (ms : List (CondCode × Nat)) : (s.evaluate k l n ms).Capacities := by
  have hms : ∀ c, ((s.monitor.conds.measure ms).get c).threshold ≤ 255 := fun c => by
    simpa using h.monitor.2.2 c
  have hcount : ∀ b, State.Capacities { s with monitor := { s.monitor with
      conds := s.monitor.conds.measure ms, counter := nextCounter b s.monitor.counter } } := fun b =>
    h.withMonitor ⟨nextCounter_le _ _, h.monitor.2.1, hms⟩
  rcases s.evaluate_cases k l n ms with e | ⟨b, e | ⟨_, e⟩ | ⟨source, _, e⟩⟩ <;> rw [e]
  · exact h.withMonitor ⟨h.monitor.1, h.monitor.2.1, hms⟩
  · exact hcount b
  · exact (hcount b).deactivate
  · exact (hcount b).activate source

theorem State.Capacities.completeOrder {s : State} (h : s.Capacities) : s.completeOrder.Capacities := by
  unfold State.completeOrder
  dsimp only
  split
  · exact { (h.evaluate _ _ _ _).report (.swd (s.evaluate _ _ _ _).sweep.record) with }
  · exact { h.report (.swd s.sweep.record) with }

theorem State.Capacities.wake {s : State} (h : s.Capacities) (c : WakeCause) : (s.wake c).Capacities := by
  unfold State.wake
  split
  · exact h
  · have h' : State.Capacities { s with port := { s.port with dormancy := .awake } } := { h with }
    exact h'.report _

theorem State.Capacities.offerCopy {s : State} (h : s.Capacities) (r : StampedRead) :
    (s.offerCopy r).Capacities := by
  have h' := h.withEvidence (EvidenceBuffer.InRange.capture h.evidence r)
  unfold State.offerCopy
  dsimp only
  split
  · exact h'.report _
  · exact h'

theorem State.Capacities.receive {s : State} (h : s.Capacities) (c : Byte) : (s.receive c).Capacities := by
  unfold State.receive
  split
  · split
    · exact (h.wake .record).withLink ((h.wake .record).link.completeRecord _)
    · exact h.withLink (h.link.storeChar c)
  · exact h.withLink (h.link.storeChar c)

/-! ## The sweep -/

/-- The idle timer restarts with the limit of the settings (R73). -/
theorem State.Capacities.restartIdle {s : State} (h : s.Capacities) : s.restartIdle.Capacities :=
  { h with
    idleTimer := fun n hn => by
      cases hn
      exact h.settings.2.2.2.1 }

theorem State.Capacities.withRecord {s : State} (h : s.Capacities) {r : OpenRecord}
    (hr : r.facts.InRange ∧ r.outcomes.InRange ∧ r.sighted ≤ Config.sightingTableSize ∧
      r.number ≤ Config.count16Max) :
    State.Capacities { s with sweep := { s.sweep with record := r } } :=
  { h with record := hr }

theorem State.Capacities.openSweep {s : State} (h : s.Capacities) (target : Loc) (mode : SweepMode) :
    (s.openSweep target mode).Capacities := by
  have ht : CountTable.InRange { s.table.setRecord target
      { s.table.recordAt target with state := .sweeping } with
      sweepNumber := nextSweepNumber s.table.sweepNumber } :=
    { h.table.setRecord target (r := { s.table.recordAt target with state := .sweeping })
        (h.table.records.recordAt target) with
      sweepNumber := nextSweepNumber_le _ }
  unfold State.openSweep
  refine State.Capacities.buzz ?_ _
  exact { (h.withTable ht) with
    port := ⟨Nat.zero_le _, h.port.2⟩
    sightings := ⟨Nat.zero_le _, nofun⟩
    record := by
      simp [OpenRecord.cleared, SweepFacts.cleared, SweepFacts.InRange, Outcomes.zero, Outcomes.InRange,
        nextSweepNumber_le]
    idleTimer := fun n hn => by
      cases hn
      exact h.settings.2.2.2.1
    monitor := ⟨h.monitor.1, h.monitor.2.1, fun c => by simpa using h.monitor.2.2 c⟩ }

theorem State.Capacities.endSweep {s : State} (h : s.Capacities) : s.endSweep.Capacities :=
  { h with idleTimer := nofun }

theorem State.Capacities.abandonSweep {s : State} (h : s.Capacities) : s.abandonSweep.Capacities := by
  have ht : s.abandonSweep.table.InRange := by
    unfold State.abandonSweep
    dsimp only
    split
    · exact h.table.abandon _ _
    · exact h.table
  exact { h with
    queue := ⟨Nat.zero_le _, nofun⟩
    sightings := ⟨Nat.zero_le _, nofun⟩
    idleTimer := nofun
    geometry := ht.geometry
    foreign := ht.foreign
    records := ht.records
    cursor := ht.cursor
    sweepNumber := ht.sweepNumber }

theorem SweepFacts.InRange.countDropped {r : OpenRecord} (h : r.facts.InRange) :
    r.countDropped.facts.InRange :=
  ⟨h.1, satInc_le _ _, h.2.2⟩

theorem State.Capacities.arriveRead {s : State} (h : s.Capacities) (r : DeliveredRead) :
    (s.arriveRead r).Capacities := by
  obtain ⟨hfacts, hrest⟩ := h.record
  have hdrop : State.Capacities { s with port := s.port.drop } :=
    { h with port := ⟨h.port.1, satInc_le _ _⟩ }
  unfold State.arriveRead
  split
  · exact hdrop
  · split
    · split
      next hroom =>
        refine State.Capacities.offerCopy ?_ _
        exact { h.restartIdle with
          queue := ⟨by simpa using hroom, fun x hx => (List.mem_append.mp hx).elim (h.queue.2 x) (fun hx => by
            rw [List.mem_singleton.mp hx]
            exact h.port.1)⟩
          record := ⟨⟨satInc_le _ _, hfacts.2⟩, hrest⟩ }
      · exact hdrop.withRecord (r := s.sweep.record.countDropped) ⟨SweepFacts.InRange.countDropped hfacts, hrest⟩
    · exact h

/-- The position counter stays within the largest P_max (R8, R56). -/
theorem movePosition_le (d : Direction) {pMax position n : Nat} (hm : pMax ≤ n) (hp : position ≤ n) :
    movePosition d pMax position ≤ n := by
  unfold movePosition
  cases d with
  | forward =>
    dsimp only
    split <;> omega
  | backward =>
    dsimp only
    omega

/-- P_max of a run is at most 1350 (R8). -/
theorem CountTable.InRange.pMax_le {c : CountTable} (h : c.InRange) : c.pMax.getD 0 ≤ 1350 := by
  unfold CountTable.pMax
  cases hg : c.geometry with
  | none => simp
  | some g =>
    obtain ⟨-, -, ⟨-, hw⟩, -⟩ := h.geometry g hg
    simp only [Option.map_some, Option.getD_some, Geometry.pMax, Config.overtravelMargin]
    omega

theorem State.Capacities.deliverCount {s : State} (h : s.Capacities) (target : Loc) :
    (s.deliverCount target).Capacities := by
  unfold State.deliverCount
  dsimp only
  split
  · exact h.restartIdle
  · split
    next w _ _ =>
      have hw : State.Capacities { s.restartIdle with sweep := { s.restartIdle.sweep with
          rateWindow := some { start := w.start + Config.rateWindowLength, count := 0 } } } :=
        { h.restartIdle with }
      exact hw.evaluate _ _ _ _
    · exact h.restartIdle

theorem State.Capacities.moveCounter {s : State} (h : s.Capacities) (d : Direction) (target : Loc) :
    (s.moveCounter d target).Capacities := by
  unfold State.moveCounter
  refine State.Capacities.deliverCount ?_ target
  exact { h with
    port := ⟨movePosition_le d h.table.pMax_le h.port.1, h.port.2⟩
    record := h.record }

theorem State.Capacities.pressTrigger {s : State} (h : s.Capacities) : s.pressTrigger.Capacities := by
  unfold State.pressTrigger
  split
  · unfold State.openAttempt
    split
    · exact h.openSweep _ _
    · exact h.buzz _
  · exact h.endSweep
  · exact h.buzz _

theorem State.Capacities.pressCall {s : State} (h : s.Capacities) : s.pressCall.Capacities := by
  unfold State.pressCall
  split
  · exact h
  · exact h.report _

theorem State.Capacities.foldRead {s : State} (h : s.Capacities) {r : StampedRead} (hr : r.position ≤ 1350) :
    (s.foldRead r).Capacities := by
  obtain ⟨hlen, hrange⟩ := h.sightings
  have ha := additionsOf_small r.antenna s.link.settings.floor r.strength hr
  unfold State.foldRead
  dsimp only
  split
  · refine { h with sightings := ⟨by simpa [foldInto] using hlen, fun x hx => ?_⟩, record := h.record }
    obtain ⟨y, hy, rfl⟩ := List.mem_map.mp hx
    split
    · exact (hrange y hy).fold ha
    · exact hrange y hy
  split
  next hroom =>
    refine { h with sightings := ⟨by simpa using hroom, fun x hx => ?_⟩, record := h.record }
    rcases List.mem_append.mp hx with hx | hx
    · exact hrange x hx
    · rw [List.mem_singleton.mp hx]
      exact (newSighting_inRange _ _).fold ha
  · exact h.withRecord (r := s.sweep.record.dropNewCode)
      ⟨SweepFacts.InRange.countDropped h.record.1, h.record.2⟩

theorem State.Capacities.handOff {s : State} (h : s.Capacities) (target : Loc) (mode : SweepMode)
    (bleed : Nat) : (s.handOff target mode bleed).Capacities := by
  obtain ⟨⟨hacc, hdrop, -⟩, hout, -, hnum⟩ := h.record
  have hacross : s.sweep.sightings.countP (Sighting.acrossAisle bleed) ≤ Config.sightingTableSize :=
    List.countP_le_length.trans h.sightings.1
  unfold State.handOff
  refine State.Capacities.evaluate ?_ _ _ _ _
  refine { h with
    record := ⟨⟨hacc, hdrop, hacross⟩, hout, h.sightings.1, hnum⟩
    inFlight := fun c hc => ?_ }
  cases hc
  refine ⟨?_, ⟨hacc, hdrop, hacross⟩, hnum⟩
  simpa [makeCommit] using (List.length_filter_le _ _).trans h.sightings.1

end Sys2Proof.Machine
end

section
namespace Sys2Proof.Machine

/-! ## The jobs -/

/-- The part of `State.Capacities` that speaks of the Order Unit. -/
def OrderUnit.InRange (o : OrderUnit) : Prop :=
  o.jobs.length ≤ Config.shelfRecords ∧ ∀ n, o.tolerance = some n → 10 ≤ n ∧ n ≤ 200

theorem State.Capacities.withOrder {s : State} (h : s.Capacities) {o : OrderUnit} (ho : o.InRange) :
    State.Capacities { s with order := o } :=
  { h with jobs := ho }

theorem OrderUnit.cleared_inRange : OrderUnit.cleared.InRange := ⟨Nat.zero_le _, nofun⟩

theorem OrderUnit.beginShelf_inRange (entries : List Entry) {tolerance : Nat} {jobs : List Nat}
    (ht : 10 ≤ tolerance ∧ tolerance ≤ 200) (hj : jobs.length ≤ Config.shelfRecords) :
    (OrderUnit.beginShelf entries tolerance jobs).InRange := by
  cases jobs with
  | nil => exact OrderUnit.cleared_inRange
  | cons t rest =>
    refine ⟨hj, fun n hn => ?_⟩
    cases hn
    exact ht

theorem CommitWork.affectedShelves_length (w : CommitWork) :
    w.affectedShelves.length ≤ Config.shelfRecords := by
  simpa [CommitWork.affectedShelves] using
    List.length_filter_le (fun t => w.affected.contains (.shelf t))
      ((List.range Config.shelfRecords).map (· + 1))

theorem State.Capacities.committed {s : State} (h : s.Capacities) {c : Commit}
    (hc : s.sweep.inFlight = some c) : (s.committed c).Capacities := by
  obtain ⟨hoffers, hfacts, hnum⟩ := h.inFlight c hc
  obtain ⟨hrf, -, hrs⟩ := h.record
  have hout := (s.table.applyOffers_inRange h.foreign c).1.mono hoffers
  have h1 := (h.withTable (h.table.commit hnum hfacts)).withOrder
    (OrderUnit.beginShelf_inRange (s.table.commit c (s.table.applyOffers c)).entries h.settings.2.2.1
      (s.table.applyOffers c).affectedShelves_length)
  unfold State.committed
  refine State.Capacities.reportAll ?_ _
  exact { h1 with
    sightings := ⟨Nat.zero_le _, nofun⟩
    record := ⟨hrf, hout, hrs⟩
    inFlight := nofun }

theorem State.Capacities.commitEvent {s : State} (h : s.Capacities) {c : Commit}
    (hc : s.sweep.inFlight = some c) : (s.commitEvent c).Capacities := by
  rw [State.commitEvent_eq]
  split
  · exact (h.committed hc).completeOrder
  · exact h.committed hc

theorem State.Capacities.completeShelfJob {s : State} (h : s.Capacities) :
    s.completeShelfJob.Capacities := by
  have hjobs : s.order.jobs.tail.length ≤ Config.shelfRecords := by
    rw [List.length_tail]
    exact (Nat.sub_le _ _).trans h.jobs.1
  have hdone : s.shelfJobDone.Capacities :=
    { h.withOrder (OrderUnit.beginShelf_inRange _ h.settings.2.2.1 hjobs) with }
  rw [State.completeShelfJob_eq]
  split
  · exact hdone.completeOrder
  · exact hdone

theorem State.Capacities.completeRunJob {s : State} (h : s.Capacities) : s.completeRunJob.Capacities := by
  have h' : State.Capacities { s with
      table := { s.table with
        run := .closed, entries := writeRunStandings s.order.piles s.table.entries }
      order := OrderUnit.cleared } :=
    { h.withOrder OrderUnit.cleared_inRange with }
  exact h'.report _

/-! ## The requests -/

/-- A geometry in range has a shelf. -/
theorem Geometry.InRange.one_le_shelfCount {g : Geometry} (h : g.InRange) : 1 ≤ g.shelfCount :=
  Nat.mul_pos h.1.1 h.2.1.1

theorem Frees.capacities {s u : State} (hf : Frees s u) (h : s.Capacities) : u.Capacities := by
  cases hf <;> exact { h with }

theorem State.Capacities.discardRun {s : State} (h : s.Capacities) : s.discardRun.Capacities := by
  have ht : s.table.discard.InRange := by
    unfold CountTable.discard
    split
    · exact h.table
    · exact CountTable.cleared_inRange
  have h1 := ((h.withTable ht).withMonitor (Monitor.InRange.reset h.monitor)).withEvidence
    (EvidenceBuffer.InRange.reset h.evidence)
  exact { h1 with
    reports := ⟨Nat.zero_le _, h.reports.2⟩
    allowance := Nat.zero_le _
    queue := ⟨Nat.zero_le _, nofun⟩
    sightings := ⟨Nat.zero_le _, nofun⟩
    record := by
      simp [SweepUnit.cleared, OpenRecord.cleared, SweepFacts.cleared, SweepFacts.InRange, Outcomes.zero,
        Outcomes.InRange]
    idleTimer := nofun
    inFlight := nofun
    jobs := OrderUnit.cleared_inRange }

theorem State.Capacities.softReset {s : State} (h : s.Capacities) : s.softReset.Capacities := by
  have h1 : (if s.sweep.abandonable then s.abandonSweep else s).Capacities := by
    split
    · exact h.abandonSweep
    · exact h
  unfold State.softReset
  have h2 := (h1.withMonitor (Monitor.InRange.reset h1.monitor)).withEvidence
    (EvidenceBuffer.InRange.reset h1.evidence)
  exact { h2 with
    buffer := Nat.zero_le _
    refusals := ⟨Nat.zero_le _, Nat.zero_le _⟩
    reports := ⟨Nat.zero_le _, Nat.zero_le _⟩
    allowance := Nat.zero_le _
    queue := ⟨Nat.zero_le _, nofun⟩ }

/-- The seal sets the cursor to shelf 1, which a run with a geometry has (R24). -/
theorem CountTable.InRange.file {c : CountTable} (h : c.InRange) (items : Nat) (e : Entry)
    (hs : 1 ≤ c.shelfCount) : (c.file items e).InRange :=
  { h with
    cursor := by
      unfold CountTable.file
      dsimp only
      split
      · exact hs
      · exact h.cursor }

/-- RB in EMPTY: the cursor was 0 without a geometry (R2). -/
theorem CountTable.InRange.beginRun {c : CountTable} (h : c.InRange) {g : Geometry} (hg : g.InRange)
    (hn : c.geometry = none) : (c.beginRun g).InRange :=
  { h with
    geometry := fun g' hg' => by
      cases hg'
      exact hg
    records := CountTable.cleared_recordsInRange
    cursor := by
      have h0 : c.cursor = 0 := by simpa [CountTable.shelfCount, hn] using h.cursor
      exact (Nat.le_of_eq h0).trans (Nat.zero_le _) }

theorem Performs.capacities {s a : State} (ha : Performs s a) (h : s.Capacities)
    (hc : s.table.geometry = none ↔ s.table.run = .empty) : a.Capacities := by
  cases ha with
  | nothing => exact h
  | runBegin g hg hr => exact h.withTable (h.table.beginRun hg (hc.mpr hr))
  | listItem rank shelf item st watch h0 hr ht =>
    simp only [CountTable.isShelf, Bool.and_eq_true, decide_eq_true_eq] at ht
    exact h.withTable (h.table.file _ _ (ht.1.trans ht.2))
  | runClose =>
    refine { h with jobs := ⟨Nat.zero_le _, fun n hn => ?_⟩ }
    cases hn
    exact h.settings.2.2.1
  | runReopen => exact { h with }
  | discardRun => exact h.discardRun
  | cursorSet t ht =>
    simp only [CountTable.isShelf, Bool.and_eq_true, decide_eq_true_eq] at ht
    exact { h with cursor := ht.2 }
  | notice => exact { h with }
  | openSweep target mode => exact h.openSweep target mode
  | endSweep => exact h.endSweep
  | abandon r => exact h.abandonSweep.report r
  | dormancy => exact { h with }
  | condition c threshold enabled ht =>
    refine h.withMonitor ⟨h.monitor.1, h.monitor.2.1, fun x => ?_⟩
    simp only [Conditions.get_put]
    split
    · exact ht
    · exact h.monitor.2.2 x
  | combine c latched duration hd => exact h.withMonitor ⟨Nat.zero_le _, hd, h.monitor.2.2⟩
  | acknowledge =>
    unfold State.acknowledge
    split
    · exact State.Capacities.deactivate
        (h.withMonitor (m := { s.monitor with counter := 0 }) ⟨Nat.zero_le _, h.monitor.2⟩)
    · exact h
  | evidenceMode m watermark hw =>
    exact h.withEvidence ⟨Nat.zero_le _, hw, fun _ _ => by simp [Config.evidenceSize]⟩
  | evidenceRead count =>
    have hdrop : (s.evidence.remove count).records.length ≤ s.evidence.records.length := by
      simp [EvidenceBuffer.remove]
    exact h.withEvidence ⟨hdrop.trans h.evidence.1, h.evidence.2.1,
      fun hm hs => hdrop.trans_lt (h.evidence.2.2 hm hs)⟩
  | setting put hp => exact { h with settings := hp _ h.settings }
  | softReset => exact h.softReset

/-! ## The effects -/

theorem State.Capacities.fetch {s : State} (h : s.Capacities) (count : Option Nat) (d : Terminator) :
    (s.fetch count d).Capacities := by
  have hcount : fetchCount count ≤ 16 := by
    cases count with
    | none => exact le_rfl
    | some n => exact (clamp_bounds n (by decide)).2
  exact { h with allowance := (Nat.min_le_left _ _).trans hcount }

/-- Every effect keeps the capacities and ranges. -/
theorem Effect.capacities {s u : State} (he : Effect s u) (h : s.Capacities)
    (hc : s.table.geometry = none ↔ s.table.run = .empty) : u.Capacities := by
  have htable : ∀ {v}, Frees s v → (v.table.geometry = none ↔ v.table.run = .empty) := by
    rintro v (_ | _ | _) <;> exact hc
  cases he with
  | replied u w code fields hf => exact (hf.capacities h).place w code fields
  | performed u _ hf ha => exact ha.capacities (hf.capacities h) (htable hf)
  | performedReplied u a w fields hf ha =>
    exact (ha.capacities (hf.capacities h) (htable hf)).place w .OK fields
  | filing => exact { h with }
  | barrierWaits => exact { h with }
  | fetch count d hcan => exact ((Frees.taken _ _ hcan).capacities h).fetch count d
  | character c => exact h.receive c
  | transmissionEnd => exact { h with }
  | read r => exact h.arriveRead r
  | shelfCount d t => exact h.moveCounter d _
  | looseCount => exact h.restartIdle
  | trigger => exact (h.wake _).pressTrigger
  | call => exact (h.wake _).pressCall
  | switch p => exact { h with }
  | patternEnd =>
    refine { h with buzzer := ?_ }
    simpa using (Nat.sub_le _ _).trans h.buzzer
  | idleExpiry => exact (h.abandonSweep.report _).buzz _
  | fold r rest hp hq =>
    obtain ⟨hlen, hpos⟩ := h.queue
    have h' : State.Capacities { s with port := { s.port with queue := rest } } :=
      { h with
        queue := ⟨by rw [hq] at hlen; exact (Nat.le_succ _).trans hlen,
          fun x hx => hpos x (by rw [hq]; exact List.mem_cons_of_mem _ hx)⟩ }
    exact h'.foldRead (hpos r (by simp [hq]))
  | handOff target mode bleed => exact h.handOff target mode bleed
  | commit c hp hflight => exact h.commitEvent hflight
  | shelfJob => exact h.completeShelfJob
  | runJob => exact h.completeRunJob

/-- The capacities and ranges hold at power-on. -/
theorem State.powerOn_capacities (strap : BaudRate) (switch : SwitchPosition) (pending : List Instr) :
    (State.powerOn strap switch pending).Capacities where
  buffer := Nat.zero_le _
  refusals := ⟨Nat.zero_le _, Nat.zero_le _⟩
  reports := ⟨Nat.zero_le _, Nat.zero_le _⟩
  allowance := Nat.zero_le _
  settings := by simp [State.powerOn, LinkUnit.start, Settings.start, Settings.InRange]
  queue := ⟨Nat.zero_le _, nofun⟩
  port := ⟨Nat.zero_le _, Nat.zero_le _⟩
  sightings := ⟨Nat.zero_le _, nofun⟩
  record := by
    simp [State.powerOn, SweepUnit.cleared, OpenRecord.cleared, SweepFacts.cleared, SweepFacts.InRange,
      Outcomes.zero, Outcomes.InRange]
  idleTimer := nofun
  inFlight := nofun
  geometry := nofun
  foreign := CountTable.cleared_inRange.foreign
  records := CountTable.cleared_recordsInRange
  cursor := le_rfl
  sweepNumber := Nat.zero_le _
  jobs := OrderUnit.cleared_inRange
  monitor := ⟨Nat.zero_le _, Nat.zero_le _, fun c => by cases c <;> exact Nat.zero_le _⟩
  evidence := ⟨Nat.zero_le _, Nat.zero_le _, nofun⟩
  buzzer := Nat.zero_le _

/-- Settles O4: every effect keeps the capacities and ranges, and so does the transmitter behind it. -/
theorem capacitiesAreKept : Obligations.CapacitiesAreKept := by
  intro s t hs hc h
  exact step_keeps (H := fun s => s.Capacities ∧ s.Controlled) (G := State.Capacities)
    (fun _ _ hs => ⟨{ hs.1 with }, { hs.2 with }⟩) (fun _ hs => hs.1)
    State.powerOn_capacities (fun _ _ hs he => (he.capacities hs.1 hs.2.geometryInRun).pump) ⟨hs, hc⟩ h

end Sys2Proof.Machine
end

section
/-! SUPPORT. The location records and the placements are kept sound by every step. -/

namespace Sys2Proof.Machine

/-! ## What the location clauses read of a table -/

theorem CountTable.recordAt_congr {c d : CountTable} (hs : c.shelves = d.shelves) (hl : c.loose = d.loose)
    (l : Loc) : c.recordAt l = d.recordAt l := by
  rcases l with (_ | t) | (_ | i) <;> simp [CountTable.recordAt, hs, hl]

theorem CountTable.hasLoc_congr {c d : CountTable} (hg : c.geometry = d.geometry) (l : Loc) :
    c.hasLoc l = d.hasLoc l := by
  cases l <;> simp [CountTable.hasLoc, CountTable.isShelf, CountTable.shelfCount_congr hg]

theorem CountTable.pMax_congr {c d : CountTable} (hg : c.geometry = d.geometry) : c.pMax = d.pMax := by
  simp [CountTable.pMax, hg]

/-- S is at most the number of shelf records (R8, section 1.3). -/
theorem CountTable.InRange.shelfCount_le {c : CountTable} (h : c.InRange) :
    c.shelfCount ≤ Config.shelfRecords := by
  unfold CountTable.shelfCount
  split
  next g hg =>
    obtain ⟨⟨-, hb⟩, ⟨-, hv⟩, -⟩ := h.geometry g hg
    exact Nat.mul_le_mul hb hv
  · exact Nat.zero_le _

/-- A location of the run has a record (section 1.3). -/
theorem CountTable.InRange.hasRecord {c : CountTable} (h : c.InRange) {l : Loc} (hl : c.hasLoc l = true) :
    c.hasRecord l = true := by
  obtain ⟨hs, hloose, -⟩ := h.records
  cases l with
  | shelf t =>
    simp only [CountTable.hasLoc, CountTable.isShelf, Bool.and_eq_true, decide_eq_true_eq] at hl
    have hcount : c.shelfCount ≤ 96 := h.shelfCount_le
    cases t with
    | zero => omega
    | succ t =>
      simp only [CountTable.hasRecord, hs, Config.shelfRecords, decide_eq_true_eq]
      omega
  | loose i =>
    simp only [CountTable.hasLoc, Bool.and_eq_true, decide_eq_true_eq] at hl
    cases i with
    | zero => omega
    | succ i =>
      simp only [CountTable.hasRecord, hloose, Config.looseRecords, decide_eq_true_eq]
      omega

/-- A change of entries that keeps every placement holds no new one. -/
theorem CountTable.holdsPlacement_of_map {c : CountTable} {f : Entry → Entry}
    (hf : ∀ e, (f e).placement = e.placement) {d : CountTable} (he : d.entries = c.entries.map f)
    (hforeign : d.foreign = c.foreign) {p : Placement} (h : d.HoldsPlacement p) : c.HoldsPlacement p := by
  unfold CountTable.HoldsPlacement at *
  rw [he, hforeign] at h
  refine h.imp_left ?_
  rintro ⟨e, hmem, hp⟩
  obtain ⟨y, hy, rfl⟩ := List.mem_map.mp hmem
  exact ⟨y, hy, (hf y).symm.trans hp⟩

/-- A table without entries and foreign entries holds no placement. -/
theorem CountTable.holdsPlacement_empty {c : CountTable} (he : c.entries = []) (hf : c.foreign = [])
    (p : Placement) : ¬ c.HoldsPlacement p := by
  simp [CountTable.HoldsPlacement, he, hf]

/-- Cleared lists hold cleared records. -/
theorem CountTable.recordAt_cleared {c : CountTable} (hs : c.shelves = CountTable.cleared.shelves)
    (hl : c.loose = CountTable.cleared.loose) (l : Loc) : c.recordAt l = LocRecord.cleared := by
  have hc : ∀ n i, (List.replicate n LocRecord.cleared).getD i LocRecord.cleared = LocRecord.cleared := by
    intro n i
    rw [List.getD_eq_getElem?_getD, List.getElem?_replicate]
    split <;> rfl
  rcases l with (_ | t) | (_ | i)
  · rfl
  · simp only [CountTable.recordAt, hs]
    exact hc _ t
  · rfl
  · simp only [CountTable.recordAt, hl]
    exact hc _ i

/-! ## The clauses carried from state to state -/

/-- The location clauses read the table, the phase and the target alone. -/
theorem State.LocationsSound.congr {s t : State} (h : s.LocationsSound) (ht : t.table = s.table)
    (hp : t.sweep.phase = s.sweep.phase) (hr : t.sweep.record.target = s.sweep.record.target) :
    t.LocationsSound where
  sweeping := by rw [ht, hp, hr]; exact h.sweeping
  unswept := by rw [ht]; exact h.unswept
  swept := by rw [ht]; exact h.swept
  target := by rw [ht, hp, hr]; exact h.target
  placements := by rw [ht]; exact h.placements

/-- A table of the same geometry and location records that holds no new placement. -/
theorem State.LocationsSound.withTable {s : State} (h : s.LocationsSound) {c : CountTable}
    (hg : c.geometry = s.table.geometry) (hs : c.shelves = s.table.shelves)
    (hl : c.loose = s.table.loose) (hp : ∀ p, c.HoldsPlacement p → s.table.HoldsPlacement p) :
    State.LocationsSound { s with table := c } where
  sweeping l := by
    dsimp only
    rw [CountTable.recordAt_congr hs hl]
    exact h.sweeping l
  unswept l := by
    dsimp only
    rw [CountTable.recordAt_congr hs hl]
    exact h.unswept l
  swept l := by
    dsimp only
    rw [CountTable.recordAt_congr hs hl]
    exact h.swept l
  target hn l hr := by
    dsimp only
    rw [CountTable.hasLoc_congr hg]
    exact h.target hn l hr
  placements p hold := by
    dsimp only
    rw [CountTable.recordAt_congr hs hl, CountTable.hasLoc_congr hg, CountTable.pMax_congr hg]
    exact h.placements p (hp p hold)

/-- A change of entries that keeps every placement. -/
theorem State.LocationsSound.withEntries {s : State} (h : s.LocationsSound) {c : CountTable}
    {f : Entry → Entry} (hf : ∀ e, (f e).placement = e.placement)
    (he : c.entries = s.table.entries.map f) (hforeign : c.foreign = s.table.foreign)
    (hg : c.geometry = s.table.geometry) (hs : c.shelves = s.table.shelves)
    (hl : c.loose = s.table.loose) : State.LocationsSound { s with table := c } :=
  h.withTable hg hs hl (fun _ hp => CountTable.holdsPlacement_of_map hf he hforeign hp)

/-- With no sweep before its commit the location clauses need only the table (R12). -/
theorem State.LocationsSound.unclaimed {s t : State} (h : s.LocationsSound)
    (hc : s.sweep.phase.claims = false) (ht : t.table = s.table) (hp : t.sweep.phase = .idle) :
    t.LocationsSound where
  sweeping l := by
    rw [ht, hp, h.sweeping l, hc]
    simp [SweepPhase.claims]
  unswept := by rw [ht]; exact h.unswept
  swept := by rw [ht]; exact h.swept
  target hn := absurd hp hn
  placements := by rw [ht]; exact h.placements

/-- An idle state of cleared records without placements. -/
theorem State.locationsSound_of_cleared {s : State} (hp : s.sweep.phase = .idle)
    (hs : s.table.shelves = CountTable.cleared.shelves) (hl : s.table.loose = CountTable.cleared.loose)
    (hno : ∀ p, ¬ s.table.HoldsPlacement p) : s.LocationsSound where
  sweeping l := by
    rw [CountTable.recordAt_cleared hs hl, hp]
    simp [LocRecord.cleared, SweepPhase.claims]
  unswept l _ := by
    rw [CountTable.recordAt_cleared hs hl]
    rfl
  swept l := by
    rw [CountTable.recordAt_cleared hs hl]
    simp [LocRecord.cleared]
  target hn := absurd hp hn
  placements p hold := absurd hold (hno p)

/-! ## The replacement of the target's record -/

/-- The table `d` is the table `c` with the record of one location replaced, of the same geometry. -/
structure CountTable.Replaced (c d : CountTable) (l : Loc) (r : LocRecord) : Prop where
  same     : d.recordAt l = r
  other    : ∀ m, m ≠ l → d.recordAt m = c.recordAt m
  geometry : d.geometry = c.geometry

theorem CountTable.setRecord_replaced {c : CountTable} {l : Loc} (h : c.hasRecord l = true)
    (r : LocRecord) : c.Replaced (c.setRecord l r) l r :=
  ⟨CountTable.recordAt_setRecord_same h r, fun _ hm => c.recordAt_setRecord_other hm r, by simp⟩

/-- Lists and numbers beside the records may differ on both sides of a replacement. -/
theorem CountTable.Replaced.congr {c d c' d' : CountTable} {l : Loc} {r : LocRecord}
    (h : c.Replaced d l r) (hc : c'.shelves = c.shelves ∧ c'.loose = c.loose ∧ c'.geometry = c.geometry)
    (hd : d'.shelves = d.shelves ∧ d'.loose = d.loose ∧ d'.geometry = d.geometry) : c'.Replaced d' l r where
  same := (CountTable.recordAt_congr hd.1 hd.2.1 l).trans h.same
  other m hm := (CountTable.recordAt_congr hd.1 hd.2.1 m).trans
    ((h.other m hm).trans (CountTable.recordAt_congr hc.1 hc.2.1 m).symm)
  geometry := hd.2.2.trans (h.geometry.trans hc.2.2.symm)

/-- The location clauses after the record of the one location that is, was or becomes a target has been
replaced: the new record agrees with the phase, its sweep count has not fallen, and new placements stand on
it. -/
theorem State.LocationsSound.replaced {s t : State} {target : Loc} {r : LocRecord} (h : s.LocationsSound)
    (hr : s.table.Replaced t.table target r) (hloc : s.table.hasLoc target = true)
    (hbefore : ∀ l, (s.table.recordAt l).state = .sweeping → l = target)
    (hafter : t.sweep.phase ≠ .idle → t.sweep.record.target = some target)
    (hstate : r.state = .sweeping ↔ t.sweep.phase.claims = true)
    (hunswept : r.state = .unswept → r.sweepCount = 0) (hswept : r.state = .swept → 1 ≤ r.sweepCount)
    (hcount : (s.table.recordAt target).sweepCount ≤ r.sweepCount)
    (hplace : ∀ p, t.table.HoldsPlacement p → s.table.HoldsPlacement p ∨
      (p.loc = target ∧ 1 ≤ r.sweepCount ∧ (p.position = none ↔ p.strength = 0) ∧
        ∀ x, p.position = some x → p.loc.isShelf = true ∧ x ≤ s.table.pMax.getD 0)) :
    t.LocationsSound := by
  have hclaims : t.sweep.phase.claims = true → t.sweep.record.target = some target := fun hc =>
    hafter (fun e => by simp [e, SweepPhase.claims] at hc)
  constructor
  case sweeping =>
    intro l
    by_cases hl : l = target
    · rw [hl, hr.same, hstate]
      exact ⟨fun hc => ⟨hc, hclaims hc⟩, fun hc => hc.1⟩
    · rw [hr.other l hl]
      refine iff_of_false (fun hs => hl (hbefore l hs)) (fun ⟨hc, ht⟩ => hl ?_)
      rw [hclaims hc] at ht
      exact (Option.some.inj ht).symm
  case unswept =>
    intro l
    by_cases hl : l = target
    · rw [hl, hr.same]
      exact hunswept
    · rw [hr.other l hl]
      exact h.unswept l
  case swept =>
    intro l
    by_cases hl : l = target
    · rw [hl, hr.same]
      exact hswept
    · rw [hr.other l hl]
      exact h.swept l
  case target =>
    intro hn l hl
    rw [hafter hn] at hl
    rw [CountTable.hasLoc_congr hr.geometry, ← Option.some.inj hl]
    exact hloc
  case placements =>
    intro p hold
    rw [CountTable.hasLoc_congr hr.geometry, CountTable.pMax_congr hr.geometry]
    rcases hplace p hold with hold | ⟨hp, hone, hrest⟩
    · obtain ⟨h1, h2, h3⟩ := h.placements p hold
      refine ⟨h1, ?_, h3⟩
      by_cases hl : p.loc = target
      · rw [hl, hr.same]
        exact (hl ▸ h2).trans hcount
      · rw [hr.other _ hl]
        exact h2
    · exact ⟨hp ▸ hloc, by rw [hp, hr.same]; exact hone, hrest⟩

/-- Only the target is SWEEPING. -/
theorem State.LocationsSound.eq_target {s : State} (h : s.LocationsSound) {target l : Loc}
    (ht : s.sweep.record.target = some target) (hs : (s.table.recordAt l).state = .sweeping) : l = target := by
  have hx := ((h.sweeping l).mp hs).2
  rw [ht] at hx
  exact (Option.some.inj hx).symm

/-! ## The sweep opens and is abandoned -/

theorem State.LocationsSound.openSweep {s : State} (h : s.LocationsSound) (hin : s.table.InRange)
    (target : Loc) (mode : SweepMode) (hp : s.sweep.phase = .idle) (ht : s.table.hasLoc target = true) :
    (s.openSweep target mode).LocationsSound := by
  have hr : s.table.Replaced (s.openSweep target mode).table target
      { s.table.recordAt target with state := .sweeping } :=
    (CountTable.setRecord_replaced (hin.hasRecord ht) _).congr ⟨rfl, rfl, rfl⟩ ⟨rfl, rfl, rfl⟩
  refine h.replaced hr ht (fun l hs => ?_) (fun _ => rfl) (iff_of_true rfl rfl) nofun nofun le_rfl
    (fun p hold => .inl ?_)
  · have hx := ((h.sweeping l).mp hs).1
    simp [hp, SweepPhase.claims] at hx
  · simpa [State.openSweep, CountTable.HoldsPlacement] using hold

/-- The target leaves SWEEPING for what its sweep count says (R12, R81). -/
theorem State.LocationsSound.abandonSweep {s : State} (h : s.LocationsSound) (hin : s.table.InRange)
    (hp : s.sweep.phase ≠ .idle) (hsome : s.sweep.record.target.isSome = true) :
    s.abandonSweep.LocationsSound := by
  obtain ⟨target, htarget⟩ := Option.isSome_iff_exists.mp hsome
  have htable : s.abandonSweep.table = s.table.abandon target (listedRanks s.sweep.sightings) := by
    simp [State.abandonSweep, htarget]
  have hloc := h.target hp target htarget
  have hr : s.table.Replaced s.abandonSweep.table target (s.table.recordAt target).leaveSweeping := by
    rw [htable]
    exact (CountTable.setRecord_replaced (c := { s.table with
      entries := s.table.entries.map (fun e =>
        Entry.settleReturned target (e.clearInSweep (listedRanks s.sweep.sightings))) })
      (hin.hasRecord hloc) _).congr ⟨rfl, rfl, rfl⟩ ⟨rfl, rfl, rfl⟩
  refine h.replaced hr hloc (fun l hs => h.eq_target htarget hs) (fun hn => absurd rfl hn)
    (iff_of_false ?_ nofun) ?_ ?_ le_rfl (fun p hold => .inl ?_)
  · unfold LocRecord.leaveSweeping
    dsimp only
    split <;> simp
  · unfold LocRecord.leaveSweeping
    dsimp only
    split <;> simp_all
  · unfold LocRecord.leaveSweeping
    dsimp only
    split
    · simp
    · omega
  · refine CountTable.holdsPlacement_of_map
      (f := fun e => Entry.settleReturned target (e.clearInSweep (listedRanks s.sweep.sightings)))
      (fun e => ?_) (by simp [htable, CountTable.abandon]) (by simp [htable, CountTable.abandon]) hold
    unfold Entry.settleReturned Entry.clearInSweep
    split_ifs <;> rfl

/-! ## The commit -/

/-- A placement in the work of a commit. -/
def CommitWork.HoldsPlacement (w : CommitWork) (p : Placement) : Prop :=
  (∃ e ∈ w.entries, e.placement = some p) ∨ ∃ f ∈ w.foreign, f.placement = p

/-- The start of a commit holds no new placement. -/
theorem CountTable.offersStart_holdsPlacement (t : CountTable) (c : Commit) {p : Placement}
    (h : (t.offersStart c).HoldsPlacement p) : t.HoldsPlacement p := by
  unfold CountTable.offersStart at h
  split at h
  · rcases h with ⟨e, he, hp⟩ | ⟨f, hf, hp⟩
    · obtain ⟨y, hy, rfl⟩ := List.mem_map.mp he
      unfold Entry.vacate at hp
      split at hp
      · cases hp
      · exact .inl ⟨y, hy, hp⟩
    · exact .inr ⟨f, (List.mem_filter.mp hf).1, hp⟩
  · exact h

/-- An offer gives no placement but its own (R96). -/
theorem Applies.holdsPlacement {g : Option Geometry} {c : Commit} {before : List Entry} {o : Offer}
    {w w' : CommitWork} (h : Applies g c before o w w') {p : Placement} (hp : w'.HoldsPlacement p) :
    w.HoldsPlacement p ∨ p = o.placement c.target c.number := by
  cases h with
  | lost | keptListed | droppedForeign => exact .inl hp
  | placedListed rank e x hk he ho hx =>
    rcases hp with ⟨e', he', hep⟩ | hf
    · obtain ⟨y, hy, rfl⟩ := List.mem_map.mp he'
      split at hep
      · exact .inr (Option.some.inj hep).symm
      · exact .inl (.inl ⟨y, hy, hep⟩)
    · exact .inl (.inr hf)
  | keptForeign f hk hf ho =>
    rcases hp with he | ⟨f', hf', rfl⟩
    · exact .inl (.inl he)
    · obtain ⟨y, hy, rfl⟩ := List.mem_map.mp hf'
      split
      · exact .inl (.inr ⟨f, List.mem_of_find?_eq_some hf, rfl⟩)
      · exact .inl (.inr ⟨y, hy, rfl⟩)
  | movedForeign f x hk hf ho hx =>
    rcases hp with he | ⟨f', hf', rfl⟩
    · exact .inl (.inl he)
    · obtain ⟨y, hy, rfl⟩ := List.mem_map.mp hf'
      split
      · exact .inr rfl
      · exact .inl (.inr ⟨y, hy, rfl⟩)
  | addedForeign hk hn hroom =>
    rcases hp with he | ⟨f', hf', rfl⟩
    · exact .inl (.inl he)
    · rcases List.mem_append.mp hf' with hm | hm
      · exact .inl (.inr ⟨f', hm, rfl⟩)
      · exact .inr (by rw [List.mem_singleton.mp hm])

/-- A placement after the offers stood before the commit, or is one that an offer makes (R94, R96). -/
theorem CountTable.applyOffers_placements (t : CountTable) (c : Commit) (p : Placement) :
    (t.applyOffers c).HoldsPlacement p →
      t.HoldsPlacement p ∨ ∃ o ∈ c.offers, p = o.placement c.target c.number := by
  refine t.applyOffers_induction c
    (P := fun _ w => w.HoldsPlacement p →
      t.HoldsPlacement p ∨ ∃ o ∈ c.offers, p = o.placement c.target c.number)
    (fun hold => .inl (t.offersStart_holdsPlacement c hold)) ?_
  intro done o rest w w' hc ih ha hold
  exact (ha.holdsPlacement hold).elim ih (fun hp => .inr ⟨o, by simp [hc], hp⟩)

/-- The settling of marks and standings keeps every placement (R99, R100). -/
theorem Entry.settle_placement (c : Commit) (w : CommitWork) (e : Entry) :
    (e.settle c w).placement = e.placement := by
  unfold Entry.settle Entry.convertReturned Entry.clearInSweep Entry.settleStanding
  split_ifs <;> rfl

/-- A placement after the commit stands in its work. -/
theorem CountTable.commit_holdsPlacement {t : CountTable} {c : Commit} {w : CommitWork} {p : Placement}
    (h : (t.commit c w).HoldsPlacement p) : w.HoldsPlacement p := by
  have he : (t.commit c w).entries = w.entries.map (Entry.settle c w) := by
    unfold CountTable.commit
    rw [CountTable.moveCursor_eq]
    simp
  have hf : (t.commit c w).foreign = w.foreign := by
    unfold CountTable.commit
    rw [CountTable.moveCursor_eq]
    simp
  unfold CountTable.HoldsPlacement at h
  rw [he, hf] at h
  refine h.imp_left ?_
  rintro ⟨e, hmem, hp⟩
  obtain ⟨y, hy, rfl⟩ := List.mem_map.mp hmem
  exact ⟨y, hy, (Entry.settle_placement c w y).symm.trans hp⟩

/-- A commit replaces the record of its target (R13). -/
theorem CountTable.commit_replaced {t : CountTable} {c : Commit} (w : CommitWork)
    (h : t.hasRecord c.target = true) :
    t.Replaced (t.commit c w) c.target ((t.recordAt c.target).committed c) := by
  unfold CountTable.commit
  rw [CountTable.moveCursor_eq]
  exact (CountTable.setRecord_replaced (c := { t with
    entries := w.entries.map (Entry.settle c w), foreign := w.foreign, overflow := w.overflow })
    h _).congr ⟨rfl, rfl, rfl⟩ ⟨rfl, rfl, rfl⟩

/-- A commit in flight is that of a sweep whose target is a location of the run. -/
theorem State.LocationsSound.commitTarget {s : State} (h : s.LocationsSound) (hc : s.Controlled) {c : Commit}
    (hp : s.sweep.phase = .commit) (hflight : s.sweep.inFlight = some c) :
    s.sweep.record.target = some c.target ∧ s.table.hasLoc c.target = true :=
  have ht := (hc.commitInFlight.2 c hflight).1
  ⟨ht, h.target (by simp [hp]) _ ht⟩

theorem State.LocationsSound.committed {s : State} (h : s.LocationsSound) (hin : s.table.InRange)
    (hc : s.Controlled) (hsight : s.SightingsSound) {c : Commit} (hp : s.sweep.phase = .commit)
    (hflight : s.sweep.inFlight = some c) : (s.committed c).LocationsSound := by
  obtain ⟨htarget, hloc⟩ := h.commitTarget hc hp hflight
  obtain ⟨-, hoffers⟩ := hsight.offers c hflight
  have hr : s.table.Replaced (s.committed c).table c.target ((s.table.recordAt c.target).committed c) := by
    rw [State.committed_table]
    exact CountTable.commit_replaced _ (hin.hasRecord hloc)
  have hone : 1 ≤ ((s.table.recordAt c.target).committed c).sweepCount := satInc_pos (by decide)
  have hmono : (s.table.recordAt c.target).sweepCount ≤
      ((s.table.recordAt c.target).committed c).sweepCount := by
    have hle := (hin.records.recordAt c.target).1
    unfold LocRecord.committed satInc
    dsimp only
    split <;> omega
  refine h.replaced hr hloc (fun l hs => h.eq_target htarget hs) (fun _ => ?_) (iff_of_false nofun ?_) nofun
    (fun _ => hone) hmono (fun p hold => ?_)
  · simpa [SweepUnit.afterCommit] using htarget
  · simp [SweepUnit.afterCommit, SweepPhase.claims]
  · rw [State.committed_table] at hold
    refine (s.table.applyOffers_placements c p (CountTable.commit_holdsPlacement hold)).imp_right ?_
    rintro ⟨o, ho, rfl⟩
    obtain ⟨-, -, hstrength, hposition⟩ := hoffers o ho
    exact ⟨rfl, hone, hstrength, hposition⟩

end Sys2Proof.Machine
end

section
namespace Sys2Proof.Machine

/-- A sweep that keeps its claim on its target, from one stage to the next. -/
theorem State.LocationsSound.stillClaimed {s t : State} (h : s.LocationsSound)
    (hs : s.sweep.phase.claims = true) (hp : t.sweep.phase.claims = true) (ht : t.table = s.table)
    (hr : t.sweep.record.target = s.sweep.record.target) : t.LocationsSound where
  sweeping l := by rw [ht, hp, hr, h.sweeping l, hs]
  unswept := by rw [ht]; exact h.unswept
  swept := by rw [ht]; exact h.swept
  target _ := by
    rw [ht, hr]
    exact h.target (fun e => by simp [e, SweepPhase.claims] at hs)
  placements := by rw [ht]; exact h.placements

theorem State.LocationsSound.endSweep {s : State} (h : s.LocationsSound) (hp : s.sweep.phase = .opened) :
    s.endSweep.LocationsSound :=
  h.stillClaimed (by rw [hp]; rfl) rfl rfl rfl

/-! ## The jobs -/

theorem State.LocationsSound.commitEvent {s : State} (h : s.LocationsSound) (hin : s.table.InRange)
    (hc : s.Controlled) (hsight : s.SightingsSound) {c : Commit} (hp : s.sweep.phase = .commit)
    (hflight : s.sweep.inFlight = some c) : (s.commitEvent c).LocationsSound := by
  have hdone := h.committed hin hc hsight hp hflight
  rw [State.commitEvent_eq]
  split
  · exact hdone.unclaimed (by simp [SweepUnit.afterCommit, SweepPhase.claims]) (by simp) (by simp)
  · exact hdone

/-- The writing of shelf standings keeps every placement (R109). -/
theorem State.LocationsSound.shelfJobDone {s : State} (h : s.LocationsSound) :
    s.shelfJobDone.LocationsSound := by
  have hw : State.LocationsSound { s with table :=
      { s.table with entries := writeShelfStandings s.order.piles s.table.entries } } :=
    h.withEntries (f := fun e =>
      if e.rank ∈ s.order.piles.ranks then { e with shelfStanding := s.order.piles.standing e.rank } else e)
      (fun e => by split_ifs <;> rfl) rfl rfl rfl rfl rfl
  exact hw.congr rfl rfl rfl

theorem State.LocationsSound.completeShelfJob {s : State} (h : s.LocationsSound)
    (hp : s.sweep.phase = .order) : s.completeShelfJob.LocationsSound := by
  rw [State.completeShelfJob_eq]
  split
  · exact h.shelfJobDone.unclaimed (by simp [State.shelfJobDone, hp, SweepPhase.claims]) (by simp) (by simp)
  · exact h.shelfJobDone

theorem State.LocationsSound.completeRunJob {s : State} (h : s.LocationsSound) :
    s.completeRunJob.LocationsSound := by
  have hw : State.LocationsSound { s with table := { s.table with
      run := .closed, entries := writeRunStandings s.order.piles s.table.entries } } :=
    h.withEntries (f := fun e => { e with
      runStanding := if e.rank ∈ s.order.piles.ranks then s.order.piles.standing e.rank else .none })
      (fun _ => rfl) rfl rfl rfl rfl rfl
  exact hw.congr rfl rfl rfl

/-! ## The requests -/

theorem Frees.locations {s u : State} (hf : Frees s u) (h : s.LocationsSound) : u.LocationsSound := by
  cases hf <;> exact h.congr rfl rfl rfl

/-- A notice keeps every placement (R118). -/
theorem Entry.notice_placement (run : RunState) (windowOpen : Bool) (n : Nat) (st : CircStatus) (e : Entry) :
    (e.notice run windowOpen n st).placement = e.placement := by
  unfold Entry.notice
  split
  · rfl
  split
  · rfl
  · cases st <;> rfl

theorem State.LocationsSound.discardRun {s : State} (h : s.LocationsSound) (hc : s.Controlled) :
    s.discardRun.LocationsSound := by
  by_cases hr : s.table.run = .empty
  · have hp := hc.noSweep (by simp [hr])
    exact h.unclaimed (by simp [hp, SweepPhase.claims]) (by simp [CountTable.discard, hr]) rfl
  · have ht : s.discardRun.table = CountTable.cleared := by simp [CountTable.discard, hr]
    exact State.locationsSound_of_cleared rfl (by rw [ht]) (by rw [ht])
      (by rw [ht]; exact CountTable.holdsPlacement_empty rfl rfl)

theorem State.LocationsSound.softReset {s : State} (h : s.LocationsSound) (hin : s.table.InRange)
    (hc : s.Controlled) : s.softReset.LocationsSound := by
  have h1 : (if s.sweep.abandonable then s.abandonSweep else s).LocationsSound := by
    split
    next ha =>
      have hp : s.sweep.phase ≠ .idle := by
        intro e
        simp [SweepUnit.abandonable, e] at ha
      exact h.abandonSweep hin hp (hc.sweepInOpenRun hp).2.1
    · exact h
  exact h1.congr rfl rfl rfl

/-- An accepted request keeps the location clauses. -/
theorem Performs.locations {s a : State} (ha : Performs s a) (h : s.LocationsSound) (hin : s.table.InRange)
    (hc : s.Controlled) (hempty : s.table.run = .empty → s.table.entries = [] ∧ s.table.foreign = []) :
    a.LocationsSound := by
  cases ha with
  | nothing => exact h
  | runBegin g hg hr =>
    obtain ⟨he, hf⟩ := hempty hr
    exact State.locationsSound_of_cleared (hc.noSweep (by simp [hr])) rfl rfl
      (CountTable.holdsPlacement_empty he hf)
  | listItem rank shelf item st watch =>
    refine h.withTable rfl rfl rfl (fun p hold => ?_)
    rcases hold with ⟨e, he, hp⟩ | hf
    · rcases List.mem_append.mp he with he | he
      · exact .inl ⟨e, he, hp⟩
      · rw [List.mem_singleton.mp he] at hp
        cases hp
    · exact .inr hf
  | runClose =>
    have hr : State.LocationsSound { s with table := { s.table with run := .closing } } :=
      h.withTable rfl rfl rfl (fun _ hp => hp)
    exact hr.congr rfl rfl rfl
  | runReopen =>
    exact h.withEntries (f := fun e => { e with runStanding := .none }) (fun _ => rfl) rfl rfl rfl rfl rfl
  | discardRun => exact h.discardRun hc
  | cursorSet => exact h.withTable rfl rfl rfl (fun _ hp => hp)
  | notice item st =>
    refine h.withEntries (f := fun e => if e.code == item then
      e.notice s.table.run (s.sweep.windowOpen e.shelf) (s.table.sweepCount e.shelf) st else e)
      (fun e => ?_) rfl rfl rfl rfl rfl
    split
    · exact Entry.notice_placement _ _ _ _ _
    · rfl
  | openSweep target mode hr hp ht => exact h.openSweep hin target mode hp ht
  | endSweep hp => exact h.endSweep hp
  | abandon r hp =>
    have hn : s.sweep.phase ≠ .idle := by rcases hp with hp | hp <;> simp [hp]
    exact (h.abandonSweep hin hn (hc.sweepInOpenRun hn).2.1).congr rfl rfl rfl
  | dormancy => exact h.congr rfl rfl rfl
  | condition => exact h.congr rfl rfl rfl
  | combine => exact h.congr rfl rfl rfl
  | acknowledge =>
    unfold State.acknowledge
    split <;> exact h.congr rfl rfl rfl
  | evidenceMode => exact h.congr rfl rfl rfl
  | evidenceRead => exact h.congr rfl rfl rfl
  | setting => exact h.congr rfl rfl rfl
  | softReset => exact h.softReset hin hc

/-! ## The effects -/

@[simp] theorem State.receive_sweep (s : State) (c : Byte) : (s.receive c).sweep = s.sweep := by
  unfold State.receive
  repeat' split
  all_goals simp
@[simp] theorem State.receive_table (s : State) (c : Byte) : (s.receive c).table = s.table := by
  unfold State.receive
  repeat' split
  all_goals simp

@[simp] theorem State.arriveRead_table (s : State) (r : DeliveredRead) :
    (s.arriveRead r).table = s.table := by
  unfold State.arriveRead State.acceptRead
  repeat' split
  all_goals simp
/-- A read that arrives leaves the phase and the target. -/
theorem State.arriveRead_phase (s : State) (r : DeliveredRead) :
    (s.arriveRead r).sweep.phase = s.sweep.phase ∧
    (s.arriveRead r).sweep.record.target = s.sweep.record.target := by
  unfold State.arriveRead State.acceptRead
  repeat' split
  all_goals simp [OpenRecord.countAccepted, OpenRecord.countDropped]

@[simp] theorem State.deliverCount_table (s : State) (l : Loc) : (s.deliverCount l).table = s.table := by
  unfold State.deliverCount
  dsimp only
  repeat' split
  all_goals simp
/-- A count delivered leaves the phase and the record. -/
theorem State.deliverCount_phase (s : State) (l : Loc) :
    (s.deliverCount l).sweep.phase = s.sweep.phase ∧ (s.deliverCount l).sweep.record = s.sweep.record := by
  unfold State.deliverCount
  dsimp only
  repeat' split
  all_goals simp

theorem State.LocationsSound.pressTrigger {s : State} (h : s.LocationsSound) (hin : s.table.InRange) :
    s.pressTrigger.LocationsSound := by
  unfold State.pressTrigger
  split
  next hp =>
    unfold State.openAttempt
    split
    next hr => exact h.openSweep hin _ _ hp hr.2
    · exact h.congr rfl rfl rfl
  next hp => exact h.endSweep hp
  · exact h.congr rfl rfl rfl

theorem State.LocationsSound.foldRead {s : State} (h : s.LocationsSound) (r : StampedRead) :
    (s.foldRead r).LocationsSound := by
  unfold State.foldRead
  dsimp only
  split
  · exact h.congr rfl rfl rfl
  split
  · have hm : State.LocationsSound { s with table := s.table.markSighted r.code } :=
      h.withEntries (f := fun e => if e.code == r.code then { e with inSweep := true } else e)
        (fun e => by split_ifs <;> rfl) rfl rfl rfl rfl rfl
    exact hm.congr rfl rfl rfl
  · exact h.congr rfl rfl rfl

theorem State.LocationsSound.handOff {s : State} (h : s.LocationsSound) (target : Loc) (mode : SweepMode)
    (bleed : Nat) (hp : s.sweep.phase = .finalize) : (s.handOff target mode bleed).LocationsSound :=
  h.stillClaimed (by rw [hp]; rfl) (by simp [State.handOff, SweepPhase.claims]) (by simp [State.handOff])
    (by simp [State.handOff])

/-- Every effect keeps the location clauses. -/
theorem Effect.locations {s u : State} (he : Effect s u) (h : s.LocationsSound) (hcap : s.Capacities)
    (hc : s.Controlled) (hlist : s.ListSound) (hsight : s.SightingsSound) : u.LocationsSound := by
  have hin := hcap.table
  have hperforms : ∀ {v a}, Frees s v → Performs v a → a.LocationsSound := by
    intro v a hf ha
    refine ha.locations (hf.locations h) (hf.capacities hcap).table (hf.controlled hc).1 ?_
    cases hf <;> exact hlist.emptyRun
  cases he with
  | replied u w code fields hf => exact (hf.locations h).congr rfl rfl rfl
  | performed u _ hf ha => exact hperforms hf ha
  | performedReplied u a w fields hf ha => exact (hperforms hf ha).congr rfl rfl rfl
  | filing => exact h.congr rfl rfl rfl
  | barrierWaits => exact h.congr rfl rfl rfl
  | fetch => exact h.congr rfl rfl rfl
  | character c => exact h.congr (by simp) (by simp) (by simp)
  | transmissionEnd => exact h.congr rfl rfl rfl
  | read r => exact h.congr (by simp) (s.arriveRead_phase r).1 (s.arriveRead_phase r).2
  | shelfCount d t =>
    unfold State.moveCounter
    refine h.congr (by simp) (State.deliverCount_phase _ _).1 ?_
    rw [(State.deliverCount_phase _ _).2]
  | looseCount => exact h.congr rfl rfl rfl
  | trigger =>
    exact State.LocationsSound.pressTrigger (h.congr (by simp) (by simp) (by simp)) (by simpa using hin)
  | call =>
    unfold State.pressCall
    split <;> exact h.congr (by simp) (by simp) (by simp)
  | switch p => exact h.congr rfl rfl rfl
  | patternEnd => exact h.congr rfl rfl rfl
  | idleExpiry hp =>
    have hn : s.sweep.phase ≠ .idle := by simp [hp]
    exact (h.abandonSweep hin hn (hc.sweepInOpenRun hn).2.1).congr rfl rfl rfl
  | fold r rest =>
    have h' : State.LocationsSound { s with port := { s.port with queue := rest } } := h.congr rfl rfl rfl
    exact h'.foldRead r
  | handOff target mode bleed hp => exact h.handOff target mode bleed hp
  | commit c hp hflight => exact h.commitEvent hin hc hsight hp hflight
  | shelfJob t hj => exact h.completeShelfJob (hc.inOrder hj)
  | runJob => exact h.completeRunJob

/-- The location clauses hold at power-on. -/
theorem State.powerOn_locationsSound (strap : BaudRate) (switch : SwitchPosition) (pending : List Instr) :
    (State.powerOn strap switch pending).LocationsSound :=
  State.locationsSound_of_cleared rfl rfl rfl (CountTable.holdsPlacement_empty rfl rfl)

/-- Settles O9: every effect keeps the location clauses, which the transmitter behind it does not read. -/
theorem locationsAreKept : Obligations.LocationsAreKept := by
  intro s t hcap hc hlist hsight hs h
  exact step_keeps
    (H := fun s => s.Capacities ∧ s.Controlled ∧ s.ListSound ∧ s.SightingsSound ∧ s.LocationsSound)
    (G := State.LocationsSound)
    (fun _ _ ⟨h1, h2, h3, h4, h5⟩ => ⟨{ h1 with }, { h2 with }, { h3 with }, { h4 with }, { h5 with }⟩)
    (fun _ ⟨_, _, _, _, h5⟩ => h5) State.powerOn_locationsSound
    (fun _ _ ⟨h1, h2, h3, h4, h5⟩ he =>
      (he.locations h5 h1 h2 h3 h4).congr (State.pump_table _) (by simp) (by simp))
    ⟨hcap, hc, hlist, hsight, hs⟩ h

end Sys2Proof.Machine
end

section
/-! SUPPORT. The reset, the requests of the run, the discard and the soft reset, the cursor, the coverage and
the test. -/

namespace Sys2Proof.Machine

/-! ## Power-on and reset -/

/-- Settles O27: power-on writes every block at its power-on value. -/
theorem powerOnValues : Obligations.PowerOnValues :=
  ⟨⟨rfl, rfl, rfl⟩, fun _ _ _ => rfl⟩

@[simp] theorem State.reset_entries : State.reset.table.entries = [] := rfl
@[simp] theorem State.reset_foreign : State.reset.table.foreign = [] := rfl
@[simp] theorem State.reset_run : State.reset.table.run = .empty := rfl
@[simp] theorem State.reset_sightings : State.reset.sweep.sightings = [] := rfl
@[simp] theorem State.reset_inFlight : State.reset.sweep.inFlight = none := rfl
@[simp] theorem State.reset_queue : State.reset.port.queue = [] := rfl
@[simp] theorem State.reset_records : State.reset.evidence.records = [] := rfl
@[simp] theorem State.reset_current : State.reset.order.current = .idle := rfl

theorem State.reset_listSound : State.reset.ListSound where
  ranks := by simp
  codes := by simp
  nonzero := by simp
  shelves := by simp
  onShelves := by simp
  emptyRun := by simp
  loading := by simp
  isSealed := by simp [RunState.hasVerdicts]

theorem State.reset_sightingsSound : State.reset.SightingsSound where
  codes := by simp
  kinds := by simp
  offers := by simp
  nonzero := by simp
  stamps := by simp

theorem State.reset_marksSound : State.reset.MarksSound where
  placedClear := by simp
  duringWindow := by simp
  inSweepClaimed := by simp
  lentStatus := by simp
  loadingClear := by simp

theorem State.reset_standingsSound : State.reset.StandingsSound where
  shelf := by simp
  pending := by simp
  closedRun := by simp
  openRun := by simp
  shelfWalk := by simp
  runWalk := by simp

/-- Settles O3: the state after reset is one power-on leaves, with empty lists, no sweep and no job. -/
theorem invariantsHoldAtReset : Obligations.InvariantsHoldAtReset :=
  ⟨State.powerOn_capacities _ _ _, State.powerOn_controlled _ _ _, State.reset_listSound,
    State.reset_sightingsSound, State.reset_marksSound, State.powerOn_locationsSound _ _ _,
    State.reset_standingsSound, rfl⟩

/-! ## The answer to a request -/

/-- The slot is freed once, whether before the effect of a request or at the end of its event. -/
theorem State.accepted_freeSlot (s t : State) (w : RequestWord) (d : Terminator) (fields : List Field) :
    s.accepted t.freeSlot w d fields = s.accepted t w d fields := by
  cases d <;> rfl

/-- A request accepted with an effect that does not read the slot. -/
theorem takeRequest_effective {s t : State} {r : Request} {d : Terminator} (h : CanTake s r d)
    {decide : Request → State → Option Decision} {fields : List Field}
    (hd : decide r s.freeSlot = some (.accept t.freeSlot fields)) :
    takeRequest decide s = .next (s.accepted t r.word d fields) := by
  rw [takeRequest_accepted h hd rfl, State.accepted_freeSlot]

/-! ## RB -/

/-- Settles O30: the three branches of RB's checks. -/
theorem runBeginBeginsARun : Obligations.RunBeginBeginsARun := by
  intro s b v w n d h
  change (_ → execRunBegin s = _) ∧ (_ → _ → execRunBegin s = _) ∧ (_ → _ → execRunBegin s = _)
  unfold execRunBegin
  refine ⟨fun hg => ?_, fun hg hr => ?_, fun hg hr => ?_⟩
  · exact takeRequest_refused h (by
      simp [decideRunBegin, (geometryInRange_iff b v w n).not.mpr hg])
  · exact takeRequest_refused h (by
      simp [decideRunBegin, (geometryInRange_iff b v w n).mpr hg, hr])
  · refine takeRequest_effective h ?_
    simp only [decideRunBegin, (geometryInRange_iff b v w n).mpr hg, Bool.not_true, Bool.false_eq_true,
      if_false, State.freeSlot_table, hr, ne_eq, not_true_eq_false]
    rfl

/-! ## The shelves of the run in number order -/

/-- A number is among the shelf numbers exactly from 1 to S. -/
theorem CountTable.mem_shelfNumbers {c : CountTable} {t : Nat} :
    t ∈ c.shelfNumbers ↔ 1 ≤ t ∧ t ≤ c.shelfCount := by
  simp only [CountTable.shelfNumbers, List.mem_map, List.mem_range]
  constructor
  · rintro ⟨i, hi, rfl⟩
    omega
  · rintro ⟨h1, h2⟩
    exact ⟨t - 1, by omega, by omega⟩

/-- No shelf is found exactly when none has the property. -/
theorem CountTable.find_shelf_none {c : CountTable} {p : Nat → Bool} :
    c.shelfNumbers.find? p = none ↔ ∀ t, 1 ≤ t → t ≤ c.shelfCount → p t = false := by
  simp only [List.find?_eq_none, CountTable.mem_shelfNumbers, Bool.not_eq_true, and_imp]

/-- The shelf found is the lowest of the property. -/
theorem CountTable.find_shelf_of_lowest {c : CountTable} {p : Nat → Bool} {t : Nat} (h1 : 1 ≤ t)
    (hs : t ≤ c.shelfCount) (hp : p t = true) (hlow : ∀ u, 1 ≤ u → u < t → p u = false) :
    c.shelfNumbers.find? p = some t := by
  have hlist : c.shelfNumbers = (List.range (t - 1)).map (· + 1) ++
      t :: (List.range (c.shelfCount - t)).map (fun i => i + (t + 1)) := by
    apply List.ext_getElem
    · simp [CountTable.shelfNumbers]
      omega
    · intro i hi _
      simp only [CountTable.shelfNumbers, List.length_map, List.length_range] at hi
      simp only [CountTable.shelfNumbers, List.getElem_map, List.getElem_range, List.getElem_append,
        List.length_map, List.length_range, List.getElem_cons]
      split_ifs <;> omega
  rw [hlist, List.find?_append, List.find?_eq_none.mpr, List.find?_cons_of_pos hp]
  · rfl
  · intro u hu
    obtain ⟨i, hi, rfl⟩ := List.mem_map.mp hu
    have := List.mem_range.mp hi
    simp [hlow (i + 1) (by omega) (by omega)]

/-- A shelf is the lowest of sweep count 0. -/
theorem CountTable.lowestUnswept_eq_some {c : CountTable} {t : Nat} (h1 : 1 ≤ t) (hs : t ≤ c.shelfCount)
    (hn : ¬ 1 ≤ c.sweepCount t) (hlow : ∀ u, 1 ≤ u → u < t → 1 ≤ c.sweepCount u) :
    c.lowestUnswept = some t := by
  refine CountTable.find_shelf_of_lowest h1 hs ?_ (fun u hu hut => ?_)
  · simpa using hn
  · have := hlow u hu hut
    simp
    omega

/-- Every shelf of the run has been counted. -/
theorem CountTable.lowestUnswept_eq_none {c : CountTable}
    (h : ∀ t, 1 ≤ t → t ≤ c.shelfCount → 1 ≤ c.sweepCount t) : c.lowestUnswept = none := by
  refine CountTable.find_shelf_none.mpr (fun t h1 hs => ?_)
  have := h t h1 hs
  simp
  omega

/-! ## CR and RO -/

/-- The ranks in the sequence of a shelf are those of the entries placed there with a position (R103). -/
theorem mem_shelfSequence {entries : List Entry} {tolerance t r : Nat} :
    r ∈ shelfSequence entries tolerance t ↔
      ∃ e ∈ entries, e.rank = r ∧ ∃ p, e.placement = some p ∧ p.loc = .shelf t ∧ p.position ≠ none := by
  have hkey : ∀ e : Entry, ∀ k, e.sequenceKey tolerance t = some k →
      k.2 = e.rank ∧ ∃ p, e.placement = some p ∧ p.loc = .shelf t ∧ p.position ≠ none := by
    intro e k hk
    unfold Entry.sequenceKey at hk
    split at hk
    next p hp =>
      split at hk
      next x hx =>
        split at hk
        next hl =>
          cases hk
          exact ⟨rfl, p, hp, hl, by simp [hx]⟩
        · cases hk
      · cases hk
    · cases hk
  simp only [shelfSequence, List.mem_map, List.mem_insertionSort, List.mem_filterMap]
  constructor
  · rintro ⟨k, ⟨e, he, hk⟩, rfl⟩
    obtain ⟨hr, hp⟩ := hkey e k hk
    exact ⟨e, he, hr.symm, hp⟩
  · rintro ⟨e, he, rfl, p, hp, hl, hx⟩
    obtain ⟨x, hx⟩ := Option.ne_none_iff_exists'.mp hx
    exact ⟨(bucket tolerance x, e.rank), ⟨e, he, by simp [Entry.sequenceKey, hp, hx, hl]⟩, rfl⟩

/-- The run-wide sequence holds exactly the positioned entries, all on shelves of the run (R104). -/
theorem State.LocationsSound.mem_runSequence {s : State} (h : s.LocationsSound) (tolerance r : Nat) :
    r ∈ runSequence s.table.entries tolerance s.table.shelfNumbers ↔
      ∃ e ∈ s.table.entries, e.rank = r ∧
        ∃ p t, e.placement = some p ∧ p.loc = .shelf t ∧ p.position ≠ none := by
  simp only [runSequence, List.mem_flatMap, mem_shelfSequence]
  constructor
  · rintro ⟨t, -, e, he, hr, p, hp, hl, hx⟩
    exact ⟨e, he, hr, p, t, hp, hl, hx⟩
  · rintro ⟨e, he, hr, p, t, hp, hl, hx⟩
    have hloc := (h.placements p (.inl ⟨e, he, hp⟩)).1
    rw [hl] at hloc
    have ht : 1 ≤ t ∧ t ≤ s.table.shelfCount := by
      simpa [CountTable.hasLoc, CountTable.isShelf] using hloc
    exact ⟨t, CountTable.mem_shelfNumbers.mpr ht, e, he, hr, p, hp, hl, hx⟩

/-- CR: its checks in order and what it does when it is accepted (R4, R111). -/
theorem execRunClose_cases {s : State} {force : Nat} {d : Terminator} (h : CanTake s (.cr force) d) :
    (1 < force → execRunClose s = .next (s.replied .CR .RG [])) ∧
    (force ≤ 1 → s.table.run ≠ .opened → execRunClose s = .next (s.replied .CR .SA [])) ∧
    (force ≤ 1 → s.table.run = .opened → s.sweep.phase ≠ .idle →
      execRunClose s = .next (s.replied .CR .BY [])) ∧
    (force ≤ 1 → s.table.run = .opened → s.sweep.phase = .idle →
      (∀ t, force = 0 → s.table.lowestUnswept = some t →
        execRunClose s = .next (s.replied .CR .US [.num t])) ∧
      (force = 1 ∨ s.table.lowestUnswept = none →
        execRunClose s = .next (s.accepted s.beginClose .CR d []))) := by
  unfold execRunClose
  refine ⟨fun hf => ?_, fun hf hr => ?_, fun hf hr hp => ?_, fun hf hr hp => ⟨fun t h0 ht => ?_, fun hc => ?_⟩⟩
  · exact takeRequest_refused h (by simp [decideRunClose, hf])
  · exact takeRequest_refused h (by simp [decideRunClose, Nat.not_lt.mpr hf, hr])
  · exact takeRequest_refused h (by simp [decideRunClose, Nat.not_lt.mpr hf, hr, hp])
  · exact takeRequest_refused h (by simp [decideRunClose, hr, hp, ht, h0])
  · refine takeRequest_effective h ?_
    have ha : decideRunClose force s.freeSlot = .accept s.freeSlot.beginClose [] := by
      simp only [decideRunClose, Nat.not_lt.mpr hf, if_false, State.freeSlot_table, State.freeSlot_sweep,
        hr, hp, ne_eq, not_true_eq_false]
      rcases hc with hc | hc
      · simp [hc]
        split <;> rfl
      · simp [hc]
    exact congrArg some ha

/-- Settles O32: CR's checks, the run-wide sequence by membership, and RO's check. -/
theorem runClosesAndReopens : Obligations.RunClosesAndReopens := by
  refine ⟨fun s force d h => ?_, ⟨fun c tolerance => ⟨rfl, ?_⟩, fun s hs => hs.mem_runSequence⟩, fun s d h => ?_⟩
  · obtain ⟨hRG, hSA, hBY, hlast⟩ := execRunClose_cases h
    refine ⟨hRG, hSA, hBY, fun hf hr hp => ⟨fun t h0 h1 hs hn hlow => ?_, fun hc => ?_⟩⟩
    · exact (hlast hf hr hp).1 t h0 (CountTable.lowestUnswept_eq_some h1 hs hn hlow)
    · exact (hlast hf hr hp).2 (hc.imp_right CountTable.lowestUnswept_eq_none)
  · simp only [runSequence, CountTable.shelfNumbers, List.flatMap_def, List.map_map]
    rfl
  · change (_ → execRunReopen s = _) ∧ (_ → execRunReopen s = _)
    unfold execRunReopen
    refine ⟨fun hr => ?_, fun hr => ?_⟩
    · exact takeRequest_refused h (by simp [decideRunReopen, hr])
    · refine takeRequest_effective h ?_
      simp only [decideRunReopen, State.freeSlot_table, hr, ne_eq, not_true_eq_false, if_false]
      rfl

/-! ## DR and RS -/

/-- The monitor's part of RS and DR (R142). -/
theorem Monitor.reset_get (m : Monitor) (x : CondCode) :
    m.reset.conds.get x = { m.conds.get x with state := false } := by
  cases x <;> rfl

/-- Settles O33: each block's part of DR and of RS, and the fields of their replies. -/
theorem discardAndSoftReset : Obligations.DiscardAndSoftReset := by
  refine ⟨fun s d h => ?_, fun s d h => ?_, fun m => ⟨m.reset_get, rfl⟩⟩
  · change execDiscardRun s = _
    unfold execDiscardRun
    by_cases hp : s.sweep.phase = .idle
    · rw [if_pos hp]
      refine takeRequest_effective h ?_
      simp only [decideDiscardRun, State.freeSlot_sweep, hp, endedSweepFields]
      rfl
    · rw [if_neg hp]
      refine takeRequest_effective h ?_
      simp only [decideDiscardRun, State.freeSlot_sweep, endedSweepFields, bne_iff_ne.mpr hp, if_true]
      rfl
  · change execSoftReset s = _
    unfold execSoftReset
    by_cases ha : s.sweep.phase = .opened ∨ s.sweep.phase = .finalize
    · have hb : s.sweep.abandonable = true := by simpa [SweepUnit.abandonable] using ha
      simp only [ha, if_true]
      refine takeRequest_effective h ?_
      simp only [State.freeSlot_sweep, hb, endedSweepFields, if_true, State.softReset]
      rfl
    · have hb : s.sweep.abandonable = false := by
        simpa [SweepUnit.abandonable] using ha
      simp only [ha, if_false]
      refine takeRequest_effective h ?_
      simp only [State.freeSlot_sweep, hb, endedSweepFields, Bool.false_eq_true, if_false, State.softReset]
      rfl

/-! ## SC, CV and TS -/

/-- The sum over the selected elements is the sum of what each adds. -/
theorem sum_map_filter_eq {α : Type} (p : α → Bool) (f : α → Nat) (xs : List α) :
    ((xs.filter p).map f).sum = (xs.map (fun x => if p x then f x else 0)).sum := by
  induction xs with
  | nil => rfl
  | cons x xs ih =>
    by_cases hp : p x = true <;> simp [hp, ih]

/-- A total is above 0 exactly when an entry has the verdict (R38). -/
theorem CountTable.total_pos (c : CountTable) (v : Verdict) :
    decide (0 < c.total v) = c.entries.any (fun e => decide (c.verdict e = some v)) := by
  rw [Bool.eq_iff_iff]
  simp [CountTable.total, List.countP_pos_iff]

/-- What a category adds to the mask of TS: its bit, where it is true and selected (R165). -/
def categoryBit (mask b : Nat) (category : Bool) : Nat :=
  if category && mask.testBit b then 2 ^ b else 0

/-- The mask of the true categories is the sum of their bits (R165). -/
theorem State.trueCategories_eq (s : State) (mask : Nat) :
    s.trueCategories mask =
      categoryBit mask 0 (s.table.entries.any (fun e => decide (s.table.verdict e = some .missing))) +
      categoryBit mask 1 (s.table.entries.any (fun e => decide (s.table.verdict e = some .misordered))) +
      categoryBit mask 2 (decide (s.table.foreign ≠ [])) + categoryBit mask 3 s.monitor.active +
      categoryBit mask 4 s.evidence.overrun + categoryBit mask 5 (decide (s.port.drops ≠ 0)) +
      categoryBit mask 6 s.lastCommitFrozen + categoryBit mask 7 (decide (s.link.reportsDropped ≠ 0)) := by
  have hforeign : (!s.table.foreign.isEmpty) = decide (s.table.foreign ≠ []) := by
    cases s.table.foreign <;> rfl
  have hne : ∀ n : Nat, (n != 0) = decide (n ≠ 0) := fun n => by
    cases n <;> rfl
  have hsum : s.trueCategories mask = (s.categories.map (fun x => categoryBit mask x.1 x.2)).sum :=
    sum_map_filter_eq (fun x : Nat × Bool => x.2 && mask.testBit x.1) (fun x => 2 ^ x.1) s.categories
  rw [hsum]
  simp only [State.categories, List.map_cons, List.map_nil, List.sum_cons, List.sum_nil,
    CountTable.total_pos, hforeign, hne]
  omega

/-- The run states in which SC and CV are taken. -/
theorem RunState.hasVerdicts_eq_false {r : RunState} :
    r.hasVerdicts = false ↔ r = .empty ∨ r = .loading := by
  cases r <;> simp [RunState.hasVerdicts]

theorem RunState.hasVerdicts_eq_true {r : RunState} :
    r.hasVerdicts = true ↔ r = .opened ∨ r = .closing ∨ r = .closed := by
  cases r <;> simp [RunState.hasVerdicts]

theorem CountTable.isShelf_iff {c : CountTable} {t : Nat} :
    c.isShelf t = true ↔ 1 ≤ t ∧ t ≤ c.shelfCount := by
  simp [CountTable.isShelf]

/-- Settles O34: SC's two checks, CV's check and search, and TS's eight categories. -/
theorem cursorCoverageAndTest : Obligations.CursorCoverageAndTest := by
  refine ⟨⟨fun s t d h => ?_, fun s d h => ?_⟩, fun s mask d h => ?_⟩
  · change (_ → execCursorSet s = _) ∧ (_ → _ → execCursorSet s = _) ∧ (_ → _ → execCursorSet s = _)
    unfold execCursorSet
    refine ⟨fun ht => ?_, fun ht hr => ?_, fun ht hr => ?_⟩
    · exact takeRequest_refused h (by simp [decideCursorSet, CountTable.isShelf_iff.not.mpr ht])
    · have hv := Bool.eq_false_iff.mpr (RunState.hasVerdicts_eq_true.not.mpr hr)
      exact takeRequest_refused h (by simp [decideCursorSet, CountTable.isShelf_iff.mpr ht, hv])
    · have hv := RunState.hasVerdicts_eq_true.mpr hr
      refine takeRequest_effective h ?_
      simp only [decideCursorSet, State.freeSlot_table, CountTable.isShelf_iff.mpr ht, hv, Bool.not_true,
        Bool.false_eq_true, if_false]
      rfl
  · have hv : ¬ (s.table.run = .empty ∨ s.table.run = .loading) → s.table.run.hasVerdicts = true :=
      fun he => by simpa using RunState.hasVerdicts_eq_false.not.mpr he
    change (_ → execCoverageRequest s = _) ∧ (_ → _ → execCoverageRequest s = _) ∧
      ∀ t, _ → _ → _ → _ → _ → execCoverageRequest s = _
    unfold execCoverageRequest
    refine ⟨fun he => ?_, fun he hall => ?_, fun t he h1 hs hn hlow => ?_⟩
    · exact takeRequest_refused h (by
        simp [decideCoverageRequest, RunState.hasVerdicts_eq_false.mpr he])
    · refine takeRequest_effective h ?_
      simp only [decideCoverageRequest, State.freeSlot_table, hv he, CountTable.lowestUnswept_eq_none hall,
        Bool.not_true, Bool.false_eq_true, if_false]
      rfl
    · refine takeRequest_effective h ?_
      simp only [decideCoverageRequest, State.freeSlot_table, hv he,
        CountTable.lowestUnswept_eq_some h1 hs hn hlow, Bool.not_true, Bool.false_eq_true, if_false]
      rfl
  · intro bit entry lastFrozen selected
    have hsel : s.freeSlot.trueCategories mask = selected := s.freeSlot.trueCategories_eq mask
    change execTestRequest s = _
    unfold execTestRequest
    refine takeRequest_effective h ?_
    have hanswer : decideTestRequest mask s.freeSlot = .accept s.freeSlot
        [.letter (if selected = 0 then asc 'N' else asc 'Y'), .num selected] := by
      simp only [decideTestRequest, hsel, Field.yesNo, bne_iff_ne, ne_eq, ite_not]
    exact congrArg some hanswer

end Sys2Proof.Machine
end

section
/-! SUPPORT. Shelf numbers, bays, levels and neighbours (R8, R9). -/

namespace Sys2Proof.Machine

/-- The bay and the level of the shelf that stands at a bay and a level. -/
theorem Geometry.bay_level_of_shelf {g : Geometry} {b l : Nat} (hb : 1 ≤ b) (hl : 1 ≤ l)
    (hv : l ≤ g.levels) :
    g.bay ((b - 1) * g.levels + l) = b ∧ g.level ((b - 1) * g.levels + l) = l := by
  have hpred : (b - 1) * g.levels + l - 1 = (l - 1) + g.levels * (b - 1) := by
    rw [Nat.mul_comm]
    omega
  have hlt : l - 1 < g.levels := by omega
  constructor
  · rw [Geometry.bay, hpred, Nat.add_mul_div_left _ _ (by omega), Nat.div_eq_of_lt hlt]
    omega
  · rw [Geometry.level, hpred, Nat.add_mul_mod_self_left, Nat.mod_eq_of_lt hlt]
    omega

/-- A shelf stands at its bay and level. -/
theorem Geometry.shelf_of_bay_level (g : Geometry) {t : Nat} (ht : 1 ≤ t) :
    (g.bay t - 1) * g.levels + g.level t = t := by
  have hdiv := Nat.div_add_mod (t - 1) g.levels
  simp only [Geometry.bay, Geometry.level, Nat.add_sub_cancel]
  rw [Nat.mul_comm]
  omega

theorem Geometry.level_bounds {g : Geometry} (hv : 1 ≤ g.levels) (t : Nat) :
    1 ≤ g.level t ∧ g.level t ≤ g.levels := by
  have := Nat.mod_lt (t - 1) (show g.levels > 0 by omega)
  unfold Geometry.level
  omega

theorem Geometry.bay_bounds {g : Geometry} {t : Nat} (ht : 1 ≤ t) (hs : t ≤ g.shelfCount) :
    1 ≤ g.bay t ∧ g.bay t ≤ g.bays := by
  have hlt : (t - 1) / g.levels < g.bays := by
    refine Nat.div_lt_of_lt_mul ?_
    rw [Nat.mul_comm]
    exact lt_of_lt_of_le (by omega) hs
  exact ⟨Nat.le_add_left _ _, hlt⟩

/-- The shelf at a bay and level of the geometry is one of its shelves. -/
theorem Geometry.shelf_bounds {g : Geometry} {b l : Nat} (hb1 : 1 ≤ b) (hb : b ≤ g.bays) (hl1 : 1 ≤ l)
    (hl : l ≤ g.levels) :
    1 ≤ (b - 1) * g.levels + l ∧ (b - 1) * g.levels + l ≤ g.shelfCount := by
  refine ⟨by omega, ?_⟩
  calc (b - 1) * g.levels + l ≤ (b - 1) * g.levels + g.levels := by omega
    _ = (b - 1 + 1) * g.levels := by rw [Nat.add_mul, Nat.one_mul]
    _ = b * g.levels := by rw [Nat.sub_add_cancel hb1]
    _ ≤ g.shelfCount := Nat.mul_le_mul_right _ hb

/-- Neighbours as R9 says it: two shelves of the run next to one another in a bay or on a level. -/
theorem Geometry.neighbours_iff {g : Geometry} {t u : Nat} :
    g.neighbours t u = true ↔ (1 ≤ t ∧ t ≤ g.shelfCount) ∧ (1 ≤ u ∧ u ≤ g.shelfCount) ∧
      ((g.bay t = g.bay u ∧ (g.level t + 1 = g.level u ∨ g.level u + 1 = g.level t)) ∨
        (g.level t = g.level u ∧ (g.bay t + 1 = g.bay u ∨ g.bay u + 1 = g.bay t))) := by
  simp [Geometry.neighbours, and_assoc]

theorem Geometry.neighbours_symm (g : Geometry) (t u : Nat) : g.neighbours t u = g.neighbours u t := by
  rw [Bool.eq_iff_iff, Geometry.neighbours_iff, Geometry.neighbours_iff]
  omega

theorem Geometry.neighbours_irrefl (g : Geometry) (t : Nat) : g.neighbours t t = false := by
  rw [Bool.eq_false_iff, ne_eq, Geometry.neighbours_iff]
  omega

/-- The shelf after one at the top level stands at level 1 of the next bay. -/
theorem Geometry.not_neighbours_succ {g : Geometry} {t : Nat} (hl : g.level t = g.levels)
    (hv : g.levels ≠ 1) : g.neighbours t (t + 1) = false := by
  rw [Bool.eq_false_iff, ne_eq, Geometry.neighbours_iff]
  rintro ⟨⟨h1, -⟩, -, hnext⟩
  have hv1 : 1 ≤ g.levels := by
    rw [← hl]
    exact Nat.le_add_left _ _
  have hb1 : 1 ≤ g.bay t := Nat.le_add_left _ _
  have ht : t + 1 = (g.bay t + 1 - 1) * g.levels + 1 := by
    have hshelf := g.shelf_of_bay_level h1
    rw [hl, ← Nat.succ_mul, Nat.succ_eq_add_one, Nat.sub_add_cancel hb1] at hshelf
    rw [Nat.add_sub_cancel, hshelf]
  obtain ⟨hbay, hlevel⟩ := Geometry.bay_level_of_shelf (g := g) (b := g.bay t + 1) (l := 1) (by omega) le_rfl hv1
  rw [← ht] at hbay hlevel
  omega

/-- The values a table has from its geometry (R8, R17, section 1.2). -/
theorem CountTable.geometry_values (c : CountTable) :
    (∀ g, c.geometry = some g →
      c.shelfCount = g.shelfCount ∧ c.pMax = some g.pMax ∧ c.items = some g.items) ∧
    (c.geometry = none → c.shelfCount = 0 ∧ c.pMax = none ∧ c.items = none) := by
  constructor
  · intro g hg
    simp [CountTable.shelfCount, CountTable.pMax, CountTable.items, hg]
  · intro hg
    simp [CountTable.shelfCount, CountTable.pMax, CountTable.items, hg]

/-- The bounds of S and P_max (R8). -/
theorem Geometry.InRange.values {g : Geometry} (h : g.InRange) :
    (1 ≤ g.shelfCount ∧ g.shelfCount ≤ 96) ∧ (g.pMax = g.width + 150 ∧ 750 ≤ g.pMax ∧ g.pMax ≤ 1350) := by
  have h1 := h.one_le_shelfCount
  obtain ⟨⟨-, hb⟩, ⟨-, hv⟩, ⟨hw1, hw⟩, -⟩ := h
  refine ⟨⟨h1, Nat.mul_le_mul hb hv⟩, rfl, ?_, ?_⟩ <;>
    simp only [Geometry.pMax, Config.overtravelMargin] <;> omega

/-- Settles O16: shelf numbers correspond to bays and levels by division, and neighbours are told by them. -/
theorem shelfNumbersAndNeighbours : Obligations.ShelfNumbersAndNeighbours := by
  refine ⟨fun c => ⟨c.geometry_values.1, c.geometry_values.2, fun t => CountTable.isShelf_iff⟩,
    fun g hg => ⟨⟨rfl, hg.values.1⟩, hg.values.2, ?_, ?_⟩, fun g hg => ⟨?_, g.neighbours_symm,
      g.neighbours_irrefl, ?_, fun t hl hv => Geometry.not_neighbours_succ hl hv⟩⟩
  · intro b l hb1 hb hl1 hl t
    obtain ⟨h1, hs⟩ := Geometry.shelf_bounds hb1 hb hl1 hl
    exact ⟨h1, hs, Geometry.bay_level_of_shelf hb1 hl1 hl⟩
  · intro t h1 hs
    exact ⟨Geometry.bay_bounds h1 hs, Geometry.level_bounds hg.2.1.1 t, g.shelf_of_bay_level h1⟩
  · intro b l b' l' hb1 hb hl1 hl hb1' hb' hl1' hl'
    obtain ⟨hbay, hlevel⟩ := Geometry.bay_level_of_shelf hb1 hl1 hl
    obtain ⟨hbay', hlevel'⟩ := Geometry.bay_level_of_shelf hb1' hl1' hl'
    rw [Geometry.neighbours_iff, hbay, hlevel, hbay', hlevel']
    exact ⟨fun h => h.2.2, fun h =>
      ⟨Geometry.shelf_bounds hb1 hb hl1 hl, Geometry.shelf_bounds hb1' hb' hl1' hl', h⟩⟩
  · intro t u ht
    rw [Bool.eq_false_iff, ne_eq, Geometry.neighbours_iff]
    omega

end Sys2Proof.Machine
end

section
/-! SUPPORT. Which offers of a commit are placed, and which shelves the commit affects. -/

namespace Sys2Proof.Machine

/-! ## Lists searched by a key -/

/-- A search by a key through a map that keeps the key. -/
theorem find_map_of_key {α κ : Type} [BEq κ] {key : α → κ} {f : α → α} (hf : ∀ x, key (f x) = key x) (k : κ)
    (xs : List α) :
    (xs.map f).find? (fun x => key x == k) = (xs.find? (fun x => key x == k)).map f := by
  rw [List.find?_map]
  simp only [Function.comp_def, hf]

/-- A search by a key past a change of the elements of another key. -/
theorem find_map_of_other_key {α κ : Type} [DecidableEq κ] {key : α → κ} {f : α → α} {j k : κ}
    (hf : ∀ x, key (f x) = key x) (hj : ∀ x, key x ≠ j → f x = x) (hjk : k ≠ j) (xs : List α) :
    (xs.map f).find? (fun x => key x == k) = xs.find? (fun x => key x == k) := by
  rw [find_map_of_key hf]
  cases hx : xs.find? (fun x => key x == k) with
  | none => rfl
  | some x =>
    have hk : key x = k := by simpa using List.find?_some hx
    rw [Option.map_some, hj x (hk ▸ hjk)]

/-- A search by a key that no two elements share, in the elements of a property. -/
theorem find_filter_of_nodup {α κ : Type} [DecidableEq κ] {key : α → κ} {xs : List α}
    (hn : (xs.map key).Nodup) (p : α → Bool) (k : κ) :
    (xs.filter p).find? (fun x => key x == k) = (xs.find? (fun x => key x == k)).filter p := by
  induction xs with
  | nil => rfl
  | cons x xs ih =>
    rw [List.map_cons, List.nodup_cons] at hn
    by_cases hk : key x = k
    · have hrest : xs.find? (fun y => key y == k) = none := by
        rw [List.find?_eq_none]
        intro y hy he
        exact hn.1 (List.mem_map.mpr ⟨y, hy, by simpa [hk] using he⟩)
      by_cases hp : p x = true
      · simp [hp, hk, Option.filter_some]
      · rw [List.filter_cons_of_neg hp, ih hn.2, hrest]
        simp [hk, hp, Option.filter_some]
    · by_cases hp : p x = true
      · rw [List.filter_cons_of_pos hp, List.find?_cons_of_neg (by simpa using hk),
          List.find?_cons_of_neg (by simpa using hk), ih hn.2]
      · rw [List.filter_cons_of_neg hp, List.find?_cons_of_neg (by simpa using hk), ih hn.2]

/-- An element is among the first k exactly when fewer than k stand before it. -/
theorem mem_take_iff_length_lt {α : Type} {xs ys : List α} {x : α} (hx : x ∉ xs) (k : Nat) :
    x ∈ (xs ++ x :: ys).take k ↔ xs.length < k := by
  rw [List.take_append, List.mem_append]
  constructor
  · rintro (h | h)
    · exact absurd (List.mem_of_mem_take h) hx
    · by_contra hk
      simp [Nat.sub_eq_zero_of_le (Nat.le_of_not_lt hk)] at h
  · intro hk
    obtain ⟨n, hn⟩ : ∃ n, k - xs.length = n + 1 := ⟨k - xs.length - 1, by omega⟩
    exact .inr (by simp [hn])

/-! ## What an offer meets -/

/-- The lists of a table and the offers of a commit name every item once. -/
structure CountTable.OffersSound (t : CountTable) (c : Commit) : Prop where
  codes        : (c.offers.map (·.code)).Nodup
  kinds        : ∀ o ∈ c.offers, o.kind = t.kindOf o.code
  ranks        : (t.entries.map (·.rank)).Nodup
  foreignCodes : (t.foreign.map (·.code)).Nodup
  room         : t.foreign.length ≤ Config.foreignListSize

/-- Ranks in order stand once each (R17). -/
theorem State.ListSound.ranks_nodup {s : State} (h : s.ListSound) : (s.table.entries.map (·.rank)).Nodup := by
  rw [h.ranks]
  exact List.nodup_range.map (fun _ _ he => Nat.succ.inj he)

theorem State.offersSound {s : State} (hcap : s.Capacities) (hl : s.ListSound) (hs : s.SightingsSound)
    {c : Commit} (hc : s.sweep.inFlight = some c) : s.table.OffersSound c where
  codes := (hs.offers c hc).1
  kinds o ho := ((hs.offers c hc).2 o ho).1
  ranks := hl.ranks_nodup
  foreignCodes := (List.nodup_append.mp hl.codes).2.1
  room := hcap.foreign.1

section
variable {t : CountTable} {c : Commit}

/-- The entry of a listed offer is that of its code (R71). -/
theorem CountTable.OffersSound.entry (h : t.OffersSound c) {o : Offer} (ho : o ∈ c.offers) {r : Nat}
    (hk : o.kind = .listed r) : ∃ e ∈ t.entries, e.rank = r ∧ e.code = o.code := by
  have hkind := h.kinds o ho
  rw [hk] at hkind
  unfold CountTable.kindOf CountTable.byCode at hkind
  split at hkind
  next e he =>
    refine ⟨e, List.mem_of_find?_eq_some he, (SightingKind.listed.inj hkind).symm, ?_⟩
    simpa using List.find?_some he
  · cases hkind

/-- Two offers of one code are one. -/
theorem CountTable.OffersSound.eq_of_code (h : t.OffersSound c) {o o' : Offer} (ho : o ∈ c.offers)
    (ho' : o' ∈ c.offers) (hc : o.code = o'.code) : o = o' :=
  List.inj_on_of_nodup_map h.codes ho ho' hc

/-- Two listed offers of one rank are one. -/
theorem CountTable.OffersSound.eq_of_rank (h : t.OffersSound c) {o o' : Offer} (ho : o ∈ c.offers)
    (ho' : o' ∈ c.offers) {r : Nat} (hk : o.kind = .listed r) (hk' : o'.kind = .listed r) : o = o' := by
  obtain ⟨e, he, hr, hc⟩ := h.entry ho hk
  obtain ⟨e', he', hr', hc'⟩ := h.entry ho' hk'
  have hee : e = e' := List.inj_on_of_nodup_map h.ranks he he' (hr.trans hr'.symm)
  exact h.eq_of_code ho ho' (hc.symm.trans (hee ▸ hc'))

/-- The placement an offer's item holds in the work of the commit. -/
def CommitWork.placementOf (w : CommitWork) (o : Offer) : Option Placement :=
  match o.kind with
  | .listed rank => (w.entries.find? (fun e => e.rank == rank)).bind (fun e => e.placement)
  | .foreign => (w.foreign.find? (fun f => f.code == o.code)).map (fun f => f.placement)

theorem CommitWork.placementOf_listed {w : CommitWork} {o : Offer} {r : Nat} (hk : o.kind = .listed r) :
    w.placementOf o = (w.entries.find? (fun e => e.rank == r)).bind (fun e => e.placement) := by
  simp [CommitWork.placementOf, hk]

theorem CommitWork.placementOf_foreign {w : CommitWork} {o : Offer} (hk : o.kind = .foreign) :
    w.placementOf o = (w.foreign.find? (fun f => f.code == o.code)).map (fun f => f.placement) := by
  simp [CommitWork.placementOf, hk]

/-- Before the commit the work is the table. -/
theorem CountTable.placementOf_eq (o : Offer) : t.placementOf o = t.commitStart.placementOf o := by
  unfold CountTable.placementOf
  split
  next r hk => simp only [CommitWork.placementOf_listed hk, CountTable.commitStart, beq_eq_decide]
  next hk => simp only [CommitWork.placementOf_foreign hk, CountTable.commitStart, beq_eq_decide]

/-- A vacated entry keeps its placement elsewhere (R94). -/
theorem Entry.vacate_placement (l : Loc) (e : Entry) :
    (e.vacate l).placement = e.placement.filter (fun p => !p.at l) := by
  unfold Entry.vacate
  split
  next h =>
    unfold Entry.placedAt at h
    cases hp : e.placement with
    | none => rfl
    | some p =>
      have hat : p.at l = true := by simpa [hp] using h
      simp [hat, Option.filter_some]
  next h =>
    unfold Entry.placedAt at h
    cases hp : e.placement with
    | none => rfl
    | some p =>
      have hat : p.at l = false := by simpa [hp] using h
      simp [hat, Option.filter_some]

/-- Before the first offer each item holds what its offer meets (R94, R95). -/
theorem CountTable.OffersSound.start_placementOf (h : t.OffersSound c) (o : Offer) :
    (t.offersStart c).placementOf o = t.meets c o := by
  unfold CountTable.meets CountTable.offersStart
  rw [CountTable.placementOf_eq]
  split
  next hm =>
    have hv : ∀ p, (!c.vacates p) = !(p.at c.target) := by
      intro p
      simp [Commit.vacates, hm, Placement.at, beq_eq_decide]
    simp only [hv]
    cases hk : o.kind with
    | listed r =>
      rw [CommitWork.placementOf_listed hk, CommitWork.placementOf_listed hk]
      have hfind := find_map_of_key (key := Entry.rank) (f := Entry.vacate c.target)
        (fun e => by unfold Entry.vacate; split <;> rfl) r t.entries
      simp only [CommitWork.vacate, CountTable.commitStart, hfind]
      cases t.entries.find? (fun e => e.rank == r) with
      | none => rfl
      | some e => simp only [Option.map_some, Option.bind_some, Entry.vacate_placement]
    | foreign =>
      rw [CommitWork.placementOf_foreign hk, CommitWork.placementOf_foreign hk]
      have hfind := find_filter_of_nodup h.foreignCodes (fun f => !f.placement.at c.target) o.code
      simp only [CommitWork.vacate, CountTable.commitStart, hfind]
      cases t.foreign.find? (fun f => f.code == o.code) with
      | none => rfl
      | some f => by_cases ha : f.placement.at c.target = true <;> simp [ha, Option.filter_some]
  next hm =>
    have hv : ∀ p, (!c.vacates p) = true := by
      intro p
      simp [Commit.vacates, hm]
    simp only [hv]
    cases t.commitStart.placementOf o <;> rfl

/-- An offer is kept in the work exactly when it is weighed and no stronger than what it meets (R95). -/
theorem offerOutcome_kept_iff (o : Offer) {m : Option Placement} (hm : m = t.meets c o) :
    offerOutcome t.geometry c.target o m = .kept ↔ t.keeps c o = true := by
  unfold CountTable.keeps
  rw [← hm]
  unfold offerOutcome
  cases m with
  | none => simp
  | some p =>
    have hw : offerWins t.geometry c.target o.strength p =
        !(t.weighs c.target p.loc && decide (o.strength ≤ p.strength)) := by
      unfold offerWins CountTable.weighs
      cases c.target with
      | loose i => rfl
      | shelf a =>
        cases p.loc with
        | loose i => rfl
        | shelf b =>
          dsimp only
          by_cases hn : a = b ∨ t.geometry.any (fun g => g.neighbours a b) = true
          · have hb : (a == b || t.geometry.any fun g => g.neighbours a b) = true := by simpa using hn
            rw [if_pos hn, hb]
            by_cases hs : p.strength < o.strength
            · simp [hs, Nat.not_le.mpr hs]
            · simp [hs, Nat.le_of_not_lt hs]
          · have hb : (a == b || t.geometry.any fun g => g.neighbours a b) = false := by simpa using hn
            rw [if_neg hn, hb]
            rfl
    simp only [hw, Option.any_some]
    cases t.weighs c.target p.loc && decide (o.strength ≤ p.strength) <;> simp

/-- A newcomer is placed exactly while the foreign list has room (R98). -/
theorem CountTable.OffersSound.places_newcomer (h : t.OffersSound c) {o : Offer} {done rest : List Offer}
    (hoffers : c.offers = done ++ o :: rest) (hk : o.kind = .foreign) (hm : t.meets c o = none) :
    t.places c o = true ↔
      (done.filter (fun o => decide (o.kind = .foreign) && decide (t.meets c o = none))).length <
        Config.foreignListSize - (t.foreignLeft c).length := by
  have hno : o ∉ done := by
    intro hd
    have hn := List.Nodup.of_map _ h.codes
    rw [hoffers] at hn
    exact (List.nodup_append.mp hn).2.2 o hd o (by simp) rfl
  have hplaces : t.places c o = decide (o ∈ t.admitted c) := by
    unfold CountTable.places
    rw [hk, hm]
  rw [hplaces, decide_eq_true_iff, CountTable.admitted, CountTable.newcomers, hoffers, List.filter_append,
    List.filter_cons_of_pos (by simp [hk, hm])]
  exact mem_take_iff_length_lt (fun hf => hno (List.mem_filter.mp hf).1) _

/-- An offer that is listed or meets a placement is placed exactly when it is not kept (R95). -/
theorem CountTable.places_of_not_newcomer {o : Offer} (h : o.kind ≠ .foreign ∨ t.meets c o ≠ none) :
    t.places c o = !t.keeps c o := by
  unfold CountTable.places
  split
  next hk hm => rcases h with h | h <;> contradiction
  · rfl

end

end Sys2Proof.Machine
end

section
namespace Sys2Proof.Machine

section
variable {t : CountTable} {c : Commit}

/-- The offers among some that bring a newcomer to the foreign list, whether or not it has room (R98). -/
def CountTable.newcomersIn (t : CountTable) (c : Commit) (done : List Offer) : List Offer :=
  done.filter (fun o => decide (o.kind = .foreign) && decide (t.meets c o = none))

/-- A location is affected by an offer that is placed: it is the target, or where the item was (R99). -/
def CountTable.affectedByOffer (t : CountTable) (c : Commit) (o : Offer) (l : Loc) : Prop :=
  t.places c o = true ∧ (c.target = l ∨ ∃ p, t.meets c o = some p ∧ p.loc = l)

/-- A location is affected by the recount vacate: it is the target, and something stood there (R94). -/
def CountTable.affectedByVacate (t : CountTable) (c : Commit) (l : Loc) : Prop :=
  c.mode = .recount ∧ c.target = l ∧ ∃ p, t.HoldsPlacement p ∧ p.loc = c.target

/-- The work of a commit after some of its offers: the items of the other offers hold what those will meet,
the foreign list has grown by the newcomers it had room for, and the affected locations are those of the
vacate and of the offers placed. -/
structure CountTable.WorkSound (t : CountTable) (c : Commit) (done : List Offer) (w : CommitWork) : Prop where
  ranks : w.entries.map (·.rank) = t.entries.map (·.rank)
  waiting : ∀ o ∈ c.offers, o ∉ done → w.placementOf o = t.meets c o
  foreign : w.foreign.length = (t.foreignLeft c).length +
    min (t.newcomersIn c done).length (Config.foreignListSize - (t.foreignLeft c).length)
  affected : ∀ l, l ∈ w.affected ↔ (∃ o ∈ done, t.affectedByOffer c o l) ∨ t.affectedByVacate c l

/-- An entry stands at a location when its placement is there. -/
theorem Entry.placedAt_iff {l : Loc} {e : Entry} :
    e.placedAt l = true ↔ ∃ p, e.placement = some p ∧ p.loc = l := by
  unfold Entry.placedAt Placement.at
  cases e.placement <;> simp

/-- The vacate affects its target exactly when something stood there (R94). -/
theorem CountTable.mem_vacate_affected (t : CountTable) (target l : Loc) :
    l ∈ (t.commitStart.vacate target).affected ↔
      target = l ∧ ∃ p, t.HoldsPlacement p ∧ p.loc = target := by
  have hheld : (!(t.entries.filter (Entry.placedAt target)).isEmpty ||
      t.foreign.any (fun f => f.placement.at target)) = true ↔ ∃ p, t.HoldsPlacement p ∧ p.loc = target := by
    simp only [Bool.or_eq_true, Bool.not_eq_true', List.isEmpty_eq_false_iff_exists_mem,
      List.any_eq_true, List.mem_filter]
    constructor
    · rintro (⟨e, he, hp⟩ | ⟨f, hf, hp⟩)
      · obtain ⟨p, hep, hat⟩ := Entry.placedAt_iff.mp hp
        exact ⟨p, .inl ⟨e, he, hep⟩, hat⟩
      · exact ⟨f.placement, .inr ⟨f, hf, rfl⟩, by simpa [Placement.at] using hp⟩
    · rintro ⟨p, ⟨e, he, hep⟩ | ⟨f, hf, hfp⟩, hl⟩
      · exact .inl ⟨e, he, Entry.placedAt_iff.mpr ⟨p, hep, hl⟩⟩
      · exact .inr ⟨f, hf, by simp [Placement.at, hfp, hl]⟩
  unfold CommitWork.vacate CountTable.commitStart
  dsimp only
  split
  next h =>
    simp only [List.mem_singleton]
    exact ⟨fun e => ⟨e.symm, hheld.mp h⟩, fun e => e.1.symm⟩
  next h =>
    simp only [List.not_mem_nil, false_iff]
    exact fun e => h (hheld.mpr e.2)

/-- The entries of a commit's start are those of the table, in their order. -/
theorem CountTable.offersStart_ranks (t : CountTable) (c : Commit) :
    (t.offersStart c).entries.map (·.rank) = t.entries.map (·.rank) := by
  unfold CountTable.offersStart
  split
  · simp only [CommitWork.vacate, CountTable.commitStart, List.map_map]
    refine List.map_congr_left (fun e _ => ?_)
    simp only [Function.comp_apply]
    unfold Entry.vacate
    split <;> rfl
  · rfl

/-- Before the first offer the work is sound. -/
theorem CountTable.OffersSound.start_sound (h : t.OffersSound c) : t.WorkSound c [] (t.offersStart c) where
  ranks := t.offersStart_ranks c
  waiting o _ _ := h.start_placementOf o
  foreign := by
    have hleft : (t.offersStart c).foreign = t.foreignLeft c := by
      unfold CountTable.offersStart CountTable.foreignLeft
      split
      next hm =>
        refine List.filter_congr (fun f _ => ?_)
        simp [Commit.vacates, hm, Placement.at, beq_eq_decide]
      next hm =>
        exact (List.filter_eq_self.mpr (fun f _ => by simp [Commit.vacates, hm])).symm
    simp [hleft, CountTable.newcomersIn]
  affected l := by
    unfold CountTable.offersStart CountTable.affectedByVacate
    split
    next hm =>
      rw [t.mem_vacate_affected]
      simp [hm]
    next hm => simp [hm, CountTable.commitStart]

end

end Sys2Proof.Machine
end

section
/-! SUPPORT. What one offer does to the work of a commit: which shelves it affects, what it leaves. -/

namespace Sys2Proof.Machine

section
variable {g : Option Geometry} {c : Commit} {before : List Entry} {o o' : Offer} {w w' : CommitWork}

/-- An offer keeps the entries and their order. -/
theorem Applies.ranks (h : Applies g c before o w w') :
    w'.entries.map (·.rank) = w.entries.map (·.rank) := by
  cases h
  case placedListed =>
    simp only [List.map_map]
    refine List.map_congr_left (fun e _ => ?_)
    simp only [Function.comp_apply]
    split <;> rfl
  all_goals rfl

/-- The entries of another rank than an offer's are left alone. -/
theorem Applies.find_entry (h : Applies g c before o w w') {r : Nat} (hr : o.kind ≠ .listed r) :
    w'.entries.find? (fun e => e.rank == r) = w.entries.find? (fun e => e.rank == r) := by
  cases h
  case placedListed rank e x hk he ho hx =>
    refine find_map_of_other_key (key := Entry.rank) (j := rank) (fun e => by split <;> rfl)
      (fun e hn => if_neg (by simpa using hn)) ?_ w.entries
    rintro rfl
    exact hr hk
  all_goals rfl

/-- The foreign entries of another code than an offer's are left alone. -/
theorem Applies.find_foreign (h : Applies g c before o w w') {k : ItemCode} (hk : o.code ≠ k) :
    w'.foreign.find? (fun f => f.code == k) = w.foreign.find? (fun f => f.code == k) := by
  cases h
  case keptForeign | movedForeign =>
    exact find_map_of_other_key (key := ForeignEntry.code) (j := o.code) (fun f => by split <;> rfl)
      (fun f hn => if_neg (by simpa using hn)) hk.symm w.foreign
  case addedForeign => simp [List.find?_append, hk]
  all_goals rfl

/-- What another offer's item holds is left alone. -/
theorem Applies.placementOf_other (h : Applies g c before o w w')
    (hlisted : ∀ r, o'.kind = .listed r → o.kind ≠ .listed r) (hcode : o.code ≠ o'.code) :
    w'.placementOf o' = w.placementOf o' := by
  cases hk : o'.kind with
  | listed r =>
    rw [CommitWork.placementOf_listed hk, CommitWork.placementOf_listed hk, h.find_entry (hlisted r hk)]
  | foreign =>
    rw [CommitWork.placementOf_foreign hk, CommitWork.placementOf_foreign hk, h.find_foreign hcode]

/-- An offer affects the target and the location its item leaves (R99). -/
theorem mem_affectedBy {target l : Loc} {m : Option Placement} :
    l ∈ affectedBy target m ↔ target = l ∨ ∃ p, m = some p ∧ p.loc = l := by
  cases m <;> simp [affectedBy, eq_comm]

/-- The foreign list grows by a newcomer for which it has room (R98). -/
theorem Applies.foreign_length (h : Applies g c before o w w') :
    w'.foreign.length =
      if o.kind = .foreign ∧ w.placementOf o = none ∧ w.foreign.length < Config.foreignListSize then
        w.foreign.length + 1
      else w.foreign.length := by
  cases h with
  | lost rank hk hn => simp [hk]
  | keptListed rank e hk he ho => simp [hk]
  | placedListed rank e x hk he ho hx => simp [hk]
  | keptForeign f hk hf ho => simp [CommitWork.placementOf_foreign hk, hf]
  | movedForeign f x hk hf ho hx => simp [CommitWork.placementOf_foreign hk, hf]
  | addedForeign hk hn hroom => simp [hk, CommitWork.placementOf_foreign hk, hn, hroom]
  | droppedForeign hk hn hfull => simp [hfull]

end

section
variable {t : CountTable} {c : Commit} {done rest : List Offer} {o : Offer} {w w' : CommitWork}

/-- The next offer meets in the work what it meets in the table. -/
theorem CountTable.OffersSound.placementOf_next (h : t.OffersSound c) (hw : t.WorkSound c done w)
    (hoffers : c.offers = done ++ o :: rest) : w.placementOf o = t.meets c o := by
  have hn := List.Nodup.of_map _ h.codes
  rw [hoffers] at hn
  exact hw.waiting o (by simp [hoffers]) (fun hd => (List.nodup_append.mp hn).2.2 o hd o (by simp) rfl)

/-- A newcomer finds room in the work exactly when it is placed (R98). -/
theorem CountTable.OffersSound.room_iff_places (h : t.OffersSound c) (hw : t.WorkSound c done w)
    (hoffers : c.offers = done ++ o :: rest) (hk : o.kind = .foreign) (hm : t.meets c o = none) :
    w.foreign.length < Config.foreignListSize ↔ t.places c o = true := by
  have hleft : (t.foreignLeft c).length ≤ t.foreign.length := List.length_filter_le ..
  have hroom := h.room
  have hforeign := hw.foreign
  unfold CountTable.newcomersIn at hforeign
  rw [h.places_newcomer hoffers hk hm]
  omega

/-- The next offer affects the target and the location it meets when it is placed, else nothing (R99). -/
theorem CountTable.OffersSound.mem_affected_next (h : t.OffersSound c) (hw : t.WorkSound c done w)
    (hoffers : c.offers = done ++ o :: rest) (ha : Applies t.geometry c t.entries o w w') (l : Loc) :
    l ∈ w'.affected ↔ t.affectedByOffer c o l ∨ l ∈ w.affected := by
  have ho : o ∈ c.offers := by simp [hoffers]
  have hmeets := h.placementOf_next hw hoffers
  have hplaced : t.places c o = true → ∀ m, m = t.meets c o →
      (l ∈ affectedBy c.target m ++ w.affected ↔ t.affectedByOffer c o l ∨ l ∈ w.affected) := by
    rintro hp m rfl
    simp only [List.mem_append, mem_affectedBy, CountTable.affectedByOffer, hp, true_and]
  have hunplaced : t.places c o = false → (l ∈ w.affected ↔ t.affectedByOffer c o l ∨ l ∈ w.affected) := by
    intro hp
    simp [CountTable.affectedByOffer, hp]
  cases ha with
  | lost rank hk hn =>
    obtain ⟨e, he, hr, -⟩ := h.entry ho hk
    have hmem : rank ∈ w.entries.map (·.rank) := by
      rw [hw.ranks]
      exact List.mem_map.mpr ⟨e, he, hr⟩
    obtain ⟨y, hy, hyr⟩ := List.mem_map.mp hmem
    exact absurd (List.find?_eq_none.mp hn y hy) (by simpa using hyr)
  | keptListed rank e hk he hkept =>
    rw [CommitWork.placementOf_listed hk, he, Option.bind_some] at hmeets
    refine hunplaced ?_
    rw [CountTable.places_of_not_newcomer (.inl (by simp [hk])),
      (offerOutcome_kept_iff o hmeets).mp hkept]
    rfl
  | placedListed rank e x hk he hx hne =>
    rw [CommitWork.placementOf_listed hk, he, Option.bind_some] at hmeets
    refine hplaced ?_ _ hmeets
    rw [CountTable.places_of_not_newcomer (.inl (by simp [hk])), Bool.not_eq_true',
      ← Bool.not_eq_true, ← offerOutcome_kept_iff o hmeets, hx]
    exact hne
  | keptForeign f hk hf hkept =>
    rw [CommitWork.placementOf_foreign hk, hf, Option.map_some] at hmeets
    refine hunplaced ?_
    rw [CountTable.places_of_not_newcomer (.inr (by simp [← hmeets])),
      (offerOutcome_kept_iff o hmeets).mp hkept]
    rfl
  | movedForeign f x hk hf hx hne =>
    rw [CommitWork.placementOf_foreign hk, hf, Option.map_some] at hmeets
    refine hplaced ?_ _ hmeets
    rw [CountTable.places_of_not_newcomer (.inr (by simp [← hmeets])), Bool.not_eq_true',
      ← Bool.not_eq_true, ← offerOutcome_kept_iff o hmeets, hx]
    exact hne
  | addedForeign hk hn hroom =>
    rw [CommitWork.placementOf_foreign hk, hn, Option.map_none] at hmeets
    exact hplaced ((h.room_iff_places hw hoffers hk hmeets.symm).mp hroom) _ hmeets
  | droppedForeign hk hn hfull =>
    rw [CommitWork.placementOf_foreign hk, hn, Option.map_none] at hmeets
    refine hunplaced ?_
    rw [← Bool.not_eq_true, ← h.room_iff_places hw hoffers hk hmeets.symm]
    exact Nat.not_lt.mpr hfull

/-- The next offer keeps the work sound. -/
theorem CountTable.OffersSound.step_sound (h : t.OffersSound c) (hw : t.WorkSound c done w)
    (hoffers : c.offers = done ++ o :: rest) (ha : Applies t.geometry c t.entries o w w') :
    t.WorkSound c (done ++ [o]) w' where
  ranks := ha.ranks.trans hw.ranks
  waiting o' ho' hn := by
    rw [List.mem_append, List.mem_singleton, not_or] at hn
    have ho : o ∈ c.offers := by simp [hoffers]
    rw [ha.placementOf_other (fun r hk' hk => hn.2 (h.eq_of_rank ho' ho hk' hk))
      (fun hc => hn.2 (h.eq_of_code ho' ho hc.symm))]
    exact hw.waiting o' ho' hn.1
  foreign := by
    have hlength := ha.foreign_length
    have hforeign := hw.foreign
    have hleft : (t.foreignLeft c).length ≤ t.foreign.length := List.length_filter_le ..
    have hroom := h.room
    rw [h.placementOf_next hw hoffers] at hlength
    unfold CountTable.newcomersIn at hforeign ⊢
    rw [List.filter_append, List.length_append]
    by_cases hnew : o.kind = .foreign ∧ t.meets c o = none
    · have hone : [o].filter (fun o => decide (o.kind = .foreign) && decide (t.meets c o = none)) = [o] := by
        simp [hnew.1, hnew.2]
      rw [hone, List.length_singleton, hlength]
      simp only [hnew.1, hnew.2, true_and]
      split <;> omega
    · have hnone : [o].filter (fun o => decide (o.kind = .foreign) && decide (t.meets c o = none)) = [] := by
        simpa using hnew
      rw [hnone, List.length_nil, hlength, if_neg (fun hc => hnew ⟨hc.1, hc.2.1⟩)]
      exact hforeign
  affected l := by
    rw [h.mem_affected_next hw hoffers ha, hw.affected]
    simp only [List.mem_append, List.mem_singleton, or_and_right, exists_or, exists_eq_left]
    exact or_left_comm.trans or_assoc.symm

/-- After the last offer the affected locations are those of the offers placed and of the vacate (R99). -/
theorem CountTable.OffersSound.mem_affected (h : t.OffersSound c) (l : Loc) :
    l ∈ (t.applyOffers c).affected ↔
      (∃ o ∈ c.offers, t.affectedByOffer c o l) ∨ t.affectedByVacate c l :=
  (t.applyOffers_induction c (P := fun done w => t.WorkSound c done w) h.start_sound
    (fun _ _ _ _ _ hoffers hw ha => h.step_sound hw hoffers ha)).affected l

end

end Sys2Proof.Machine
end

section
/-! SUPPORT. A commit affects every location whose placements it changes, and no location without cause. -/

namespace Sys2Proof.Machine

section
variable {g : Option Geometry} {c : Commit} {before : List Entry} {o : Offer} {w w' : CommitWork}

/-- The affected locations only grow. -/
theorem Applies.affected_subset (h : Applies g c before o w w') : w.affected ⊆ w'.affected := by
  cases h
  case placedListed | movedForeign => exact List.subset_append_right _ _
  case addedForeign => exact List.subset_cons_self _ _
  all_goals exact List.Subset.refl _

/-- An offer affects the target or the location of a placement of the work (R99). -/
theorem Applies.mem_affected (h : Applies g c before o w w') {l : Loc} (hl : l ∈ w'.affected) :
    l ∈ w.affected ∨ l = c.target ∨ ∃ p, w.HoldsPlacement p ∧ p.loc = l := by
  cases h with
  | lost | keptListed | keptForeign | droppedForeign => exact .inl hl
  | placedListed rank e x hk he ho hx =>
    rcases List.mem_append.mp hl with hm | hm
    · rcases mem_affectedBy.mp hm with ht | ⟨p, hp, hpl⟩
      · exact .inr (.inl ht.symm)
      · exact .inr (.inr ⟨p, .inl ⟨e, List.mem_of_find?_eq_some he, hp⟩, hpl⟩)
    · exact .inl hm
  | movedForeign f x hk hf ho hx =>
    rcases List.mem_append.mp hl with hm | hm
    · rcases mem_affectedBy.mp hm with ht | ⟨p, hp, hpl⟩
      · exact .inr (.inl ht.symm)
      · exact .inr (.inr ⟨p, .inr ⟨f, List.mem_of_find?_eq_some hf, Option.some.inj hp⟩, hpl⟩)
    · exact .inl hm
  | addedForeign hk hn hroom => exact (List.mem_cons.mp hl).elim (fun e => .inr (.inl e)) .inl

/-- An entry whose placement an offer changes: the location it left and the target are affected (R99). -/
theorem Applies.entry_affected (h : Applies g c before o w w') (hn : (w.entries.map (·.rank)).Nodup) {i : Nat}
    {y y' : Entry} (hy : w.entries[i]? = some y) (hy' : w'.entries[i]? = some y') :
    y'.placement = y.placement ∨
      ∀ p, y.placement = some p ∨ y'.placement = some p → p.loc ∈ w'.affected := by
  cases h
  case placedListed rank e x hk he ho hx =>
    rw [List.getElem?_map, hy, Option.map_some, Option.some.injEq] at hy'
    subst hy'
    split
    next hr =>
      have hye : y = e := by
        refine List.inj_on_of_nodup_map hn (List.mem_of_getElem? hy) (List.mem_of_find?_eq_some he) ?_
        exact (by simpa using hr : y.rank = rank).trans (by simpa using List.find?_some he : e.rank = rank).symm
      subst hye
      refine .inr (fun p hp => List.mem_append_left _ (mem_affectedBy.mpr ?_))
      rcases hp with hp | hp
      · exact .inr ⟨p, hp, rfl⟩
      · exact .inl (congrArg Placement.loc (Option.some.inj hp))
    next => exact .inl rfl
  all_goals
    rw [hy, Option.some.injEq] at hy'
    exact .inl (by rw [hy'])

end

/-- The locations whose placements differ between the table and the work are affected. -/
def CountTable.ChangesAffected (t : CountTable) (w : CommitWork) : Prop :=
  ∀ (i : Nat) (e y : Entry), t.entries[i]? = some e → w.entries[i]? = some y →
    y.placement = e.placement ∨ ∀ p, e.placement = some p ∨ y.placement = some p → p.loc ∈ w.affected

/-- The vacate affects the target when it clears a placement (R94). -/
theorem CountTable.vacate_changesAffected (t : CountTable) (l : Loc) :
    t.ChangesAffected (t.commitStart.vacate l) := by
  intro i e y he hy
  have hmap : (t.commitStart.vacate l).entries = t.entries.map (Entry.vacate l) := rfl
  rw [hmap, List.getElem?_map, he, Option.map_some, Option.some.injEq] at hy
  subst hy
  unfold Entry.vacate
  split
  next h =>
    obtain ⟨q, hq, hql⟩ := Entry.placedAt_iff.mp h
    refine .inr ?_
    rintro p (hp | hp)
    · rw [hq, Option.some.injEq] at hp
      rw [CountTable.mem_vacate_affected]
      exact ⟨by rw [← hp, hql], q, .inl ⟨e, List.mem_of_getElem? he, hq⟩, hql⟩
    · cases hp
  next => exact .inl rfl

/-- Every location whose placements a commit changes is affected (R99). -/
theorem CountTable.applyOffers_changesAffected {t : CountTable} (hn : (t.entries.map (·.rank)).Nodup)
    (c : Commit) : t.ChangesAffected (t.applyOffers c) := by
  refine (t.applyOffers_induction c (P := fun _ w =>
    w.entries.map (·.rank) = t.entries.map (·.rank) ∧ t.ChangesAffected w) ?_ ?_).2
  · refine ⟨t.offersStart_ranks c, ?_⟩
    unfold CountTable.offersStart
    split
    · exact t.vacate_changesAffected c.target
    · intro i e y he hy
      exact .inl (congrArg Entry.placement (Option.some.inj (hy.symm.trans he)))
  · rintro done o rest w w' - ⟨hranks, hw⟩ ha
    refine ⟨ha.ranks.trans hranks, ?_⟩
    intro i e y' he hy'
    have hlength : w'.entries.length = w.entries.length := by simpa using congrArg List.length ha.ranks
    obtain ⟨y, hy⟩ : ∃ y, w.entries[i]? = some y :=
      ⟨_, List.getElem?_eq_getElem (hlength ▸ (List.getElem?_eq_some_iff.mp hy').1)⟩
    rcases ha.entry_affected (hranks ▸ hn) hy hy' with hsame | hnew
    · rw [hsame]
      exact (hw i e y he hy).imp_right (fun h p hp => ha.affected_subset (h p hp))
    · rcases hw i e y he hy with hsame | hold
      · rw [hsame] at hnew
        exact .inr hnew
      · refine .inr ?_
        rintro p (hp | hp)
        · exact ha.affected_subset (hold p (.inl hp))
        · exact hnew p (.inr hp)

/-- A location that a commit affects is the target or held a placement before it (R99). -/
theorem CountTable.applyOffers_affected (t : CountTable) (c : Commit) {l : Loc}
    (hl : l ∈ (t.applyOffers c).affected) : l = c.target ∨ ∃ p, t.HoldsPlacement p ∧ p.loc = l := by
  refine (t.applyOffers_induction c (P := fun _ w =>
    (∀ p, w.HoldsPlacement p → t.HoldsPlacement p ∨ p.loc = c.target) ∧
      ∀ l ∈ w.affected, l = c.target ∨ ∃ p, t.HoldsPlacement p ∧ p.loc = l) ?_ ?_).2 l hl
  · refine ⟨fun p hp => .inl (t.offersStart_holdsPlacement c hp), fun l hl => ?_⟩
    unfold CountTable.offersStart at hl
    split at hl
    · exact .inl ((t.mem_vacate_affected c.target l).mp hl).1.symm
    · cases hl
  · rintro done o rest w w' - ⟨hplace, hw⟩ ha
    refine ⟨fun p hp => (ha.holdsPlacement hp).elim (hplace p) (fun he => .inr (congrArg Placement.loc he)), fun l hl => ?_⟩
    rcases ha.mem_affected hl with hm | ht | ⟨p, hp, hpl⟩
    · exact hw l hm
    · exact .inl ht
    · exact (hplace p hp).elim (fun h => .inr ⟨p, h, hpl⟩) (fun h => .inl (hpl ▸ h))

end Sys2Proof.Machine
end

section
/-! The commit event as a whole (R93). -/

namespace Sys2Proof.Machine

/-! ## What the queues' owners leave of the link's receiver -/

/-- The link keeps its settings, its holding slot and the record it receives. -/
structure LinkUnit.ReceiverKept (l l' : LinkUnit) : Prop where
  settings : l'.settings = l.settings
  slot     : l'.slot = l.slot
  parser   : l'.parser = l.parser
  buffer   : l'.buffer = l.buffer

theorem LinkUnit.ReceiverKept.trans {l m n : LinkUnit} (h : l.ReceiverKept m) (h' : m.ReceiverKept n) :
    l.ReceiverKept n :=
  ⟨h'.settings.trans h.settings, h'.slot.trans h.slot, h'.parser.trans h.parser, h'.buffer.trans h.buffer⟩

theorem LinkUnit.queueReport_receiverKept (l : LinkUnit) (r : Report) : l.ReceiverKept (l.queueReport r) := by
  constructor <;> simp

theorem State.reportAll_receiverKept (s : State) (rs : List Report) :
    s.link.ReceiverKept (s.reportAll rs).link := by
  induction rs generalizing s with
  | nil => exact ⟨rfl, rfl, rfl, rfl⟩
  | cons r rs ih => exact (s.link.queueReport_receiverKept r).trans (ih (s.report r))

theorem State.completeOrder_receiverKept (s : State) : s.link.ReceiverKept s.completeOrder.link := by
  unfold State.completeOrder
  dsimp only
  split
  · refine LinkUnit.ReceiverKept.trans ?_ (LinkUnit.queueReport_receiverKept _ _)
    constructor <;> simp
  · exact s.link.queueReport_receiverKept _

theorem State.pump_receiverKept (s : State) : s.link.ReceiverKept s.pump.link := by
  rw [State.pump_link]
  split
  · constructor <;> simp
  · exact ⟨rfl, rfl, rfl, rfl⟩

theorem State.committed_receiverKept (s : State) (c : Commit) : s.link.ReceiverKept (s.committed c).link := by
  unfold State.committed
  refine LinkUnit.ReceiverKept.trans ?_ (State.reportAll_receiverKept _ _)
  exact ⟨rfl, rfl, rfl, rfl⟩

/-! ## The fields of the commit event -/

section
variable (s : State) (c : Commit)

@[simp] theorem State.commitEvent_pending : (s.commitEvent c).pending = s.pending := by
  rw [State.commitEvent_eq]
  split <;> simp
@[simp] theorem State.commitEvent_port : (s.commitEvent c).port = s.port := by
  rw [State.commitEvent_eq]
  split <;> simp
@[simp] theorem State.commitEvent_table :
    (s.commitEvent c).table = s.table.commit c (s.table.applyOffers c) := by
  rw [State.commitEvent_eq]
  split <;> simp
@[simp] theorem State.commitEvent_order :
    (s.commitEvent c).order = OrderUnit.beginShelf (s.table.commit c (s.table.applyOffers c)).entries
      s.link.settings.tolerance (s.table.applyOffers c).affectedShelves := by
  rw [State.commitEvent_eq]
  split <;> simp
@[simp] theorem State.commitEvent_sweep :
    (s.commitEvent c).sweep = { s.sweep.afterCommit c (s.table.applyOffers c).outcomes with
      phase := if (s.table.applyOffers c).affectedShelves = [] then .idle else .order } := by
  rw [State.commitEvent_eq]
  split
  next h => simp [List.isEmpty_iff.mp h]
  next h =>
    rw [if_neg (by simpa using h), State.committed_sweep]
    rfl

theorem State.commitEvent_receiverKept : s.link.ReceiverKept (s.commitEvent c).link := by
  rw [State.commitEvent_eq]
  split
  · exact (s.committed_receiverKept c).trans (State.completeOrder_receiverKept _)
  · exact s.committed_receiverKept c

end

/-! ## The shelves affected (R101) -/

theorem CommitWork.mem_affectedShelves {w : CommitWork} {u : Nat} :
    u ∈ w.affectedShelves ↔ (1 ≤ u ∧ u ≤ Config.shelfRecords) ∧ .shelf u ∈ w.affected := by
  simp only [CommitWork.affectedShelves, List.mem_filter, List.mem_map, List.mem_range,
    List.contains_iff_mem]
  refine and_congr_left (fun _ => ⟨?_, fun h => ⟨u - 1, by omega, by omega⟩⟩)
  rintro ⟨i, hi, rfl⟩
  omega

theorem CommitWork.affectedShelves_ascending (w : CommitWork) : w.affectedShelves.Pairwise (· < ·) := by
  refine List.Pairwise.filter _ (List.pairwise_map.mpr ?_)
  exact List.pairwise_lt_range.imp Nat.succ_lt_succ

/-- A shelf of the run is affected exactly when the commit affects its location. -/
theorem CommitWork.mem_affectedShelves_of_hasLoc {w : CommitWork} {t : CountTable} (ht : t.InRange) {u : Nat}
    (hu : t.hasLoc (.shelf u) = true) : u ∈ w.affectedShelves ↔ .shelf u ∈ w.affected := by
  have hle := ht.shelfCount_le
  simp only [CountTable.hasLoc, CountTable.isShelf, Bool.and_eq_true, decide_eq_true_eq] at hu
  rw [CommitWork.mem_affectedShelves]
  exact and_iff_right ⟨hu.1, hu.2.trans hle⟩

/-- What a commit affects are locations of the run (R10, R11). -/
theorem State.LocationsSound.hasLoc_of_affected {s : State} (h : s.LocationsSound) {c : Commit}
    (hloc : s.table.hasLoc c.target = true) {l : Loc} (hl : l ∈ (s.table.applyOffers c).affected) :
    s.table.hasLoc l = true := by
  rcases s.table.applyOffers_affected c hl with rfl | ⟨p, hp, rfl⟩
  · exact hloc
  · exact (h.placements p hp).1

/-! ## The cursor (R13) -/

/-- The first shelf of sweep count 0 after u is the next. -/
theorem CountTable.nextCursor_after {t : CountTable} {u v : Nat} (h1 : 1 ≤ v) (hs : v ≤ t.shelfCount)
    (hz : t.sweepCount v = 0) (huv : u < v)
    (hlow : ∀ x, u < x → x < v → ¬ (1 ≤ x ∧ x ≤ t.shelfCount ∧ t.sweepCount x = 0)) :
    t.nextCursor u = v := by
  have hfind : t.shelfNumbers.find? (fun x => u < x && t.sweepCount x == 0) = some v := by
    refine CountTable.find_shelf_of_lowest h1 hs (by simp [huv, hz]) (fun x hx hxv => ?_)
    have := hlow x
    simp only [Bool.and_eq_false_iff, decide_eq_false_iff_not, beq_eq_false_iff_ne]
    by_contra hc
    omega
  simp only [CountTable.nextCursor, hfind]

/-- With no shelf of sweep count 0 after u the cursor is the lowest one, or 0. -/
theorem CountTable.nextCursor_wrapped {t : CountTable} {u : Nat}
    (h : ∀ v, u < v → ¬ (1 ≤ v ∧ v ≤ t.shelfCount ∧ t.sweepCount v = 0)) :
    t.nextCursor u = t.lowestUnswept.getD 0 := by
  have hfind : t.shelfNumbers.find? (fun x => u < x && t.sweepCount x == 0) = none := by
    refine CountTable.find_shelf_none.mpr (fun v h1 hs => ?_)
    have := h v
    simp only [Bool.and_eq_false_iff, decide_eq_false_iff_not, beq_eq_false_iff_ne]
    by_contra hc
    omega
  simp only [CountTable.nextCursor, hfind]

/-- With no shelf of sweep count 0 after u the first one from shelf 1 is the next. -/
theorem CountTable.nextCursor_first {t : CountTable} {u v : Nat}
    (hafter : ∀ x, u < x → ¬ (1 ≤ x ∧ x ≤ t.shelfCount ∧ t.sweepCount x = 0)) (h1 : 1 ≤ v)
    (hs : v ≤ t.shelfCount) (hz : t.sweepCount v = 0)
    (hlow : ∀ x, x < v → ¬ (1 ≤ x ∧ x ≤ t.shelfCount ∧ t.sweepCount x = 0)) : t.nextCursor u = v := by
  have hswept : ∀ x, 1 ≤ x → x < v → 1 ≤ t.sweepCount x := by
    intro x hx hxv
    by_contra hc
    exact hlow x hxv ⟨hx, by omega, by omega⟩
  rw [CountTable.nextCursor_wrapped hafter, CountTable.lowestUnswept_eq_some h1 hs (by simp [hz]) hswept]
  rfl

/-- With no shelf of sweep count 0 the cursor is 0. -/
theorem CountTable.nextCursor_zero {t : CountTable} {u : Nat}
    (hall : ∀ v, ¬ (1 ≤ v ∧ v ≤ t.shelfCount ∧ t.sweepCount v = 0)) : t.nextCursor u = 0 := by
  have hswept : ∀ x, 1 ≤ x → x ≤ t.shelfCount → 1 ≤ t.sweepCount x := by
    intro x hx hxs
    by_contra hc
    exact hall x ⟨hx, hxs, by omega⟩
  rw [CountTable.nextCursor_wrapped (fun v _ => hall v), CountTable.lowestUnswept_eq_none hswept]
  rfl

theorem CountTable.nextCursor_congr {t t' : CountTable} (hg : t.geometry = t'.geometry)
    (hs : t.shelves = t'.shelves) (hl : t.loose = t'.loose) (u : Nat) : t.nextCursor u = t'.nextCursor u := by
  have hcount : t.sweepCount = t'.sweepCount := by
    funext v
    simp only [CountTable.sweepCount, CountTable.recordAt_congr hs hl]
  simp only [CountTable.nextCursor, CountTable.lowestUnswept, CountTable.shelfNumbers,
    CountTable.shelfCount_congr hg, hcount]

section
variable (t : CountTable) (c : Commit) (w : CommitWork)

@[simp] theorem CountTable.commit_load : (t.commit c w).load = t.load := by
  unfold CountTable.commit
  rw [CountTable.moveCursor_eq]
  simp
@[simp] theorem CountTable.commit_sweepNumber : (t.commit c w).sweepNumber = t.sweepNumber := by
  unfold CountTable.commit
  rw [CountTable.moveCursor_eq]
  simp
@[simp] theorem CountTable.commit_entries :
    (t.commit c w).entries = w.entries.map (Entry.settle c w) := by
  unfold CountTable.commit
  rw [CountTable.moveCursor_eq]
  simp

/-- After a commit on a loose location the cursor stays. -/
theorem CountTable.commit_cursor_loose {i : Nat} (h : c.target = .loose i) :
    (t.commit c w).cursor = t.cursor := by
  unfold CountTable.commit
  rw [h]
  simp [CountTable.moveCursor]

/-- After a commit on a shelf the cursor is the next of the table as it then stands. -/
theorem CountTable.commit_cursor_shelf {u : Nat} (h : c.target = .shelf u) :
    (t.commit c w).cursor = (t.commit c w).nextCursor u := by
  unfold CountTable.commit
  rw [h]
  exact CountTable.nextCursor_congr rfl rfl rfl u

end

/-! ## The event -/

theorem execCommit_inFlight {s : State} {c : Commit} (hp : s.sweep.phase = .commit)
    (hflight : s.sweep.inFlight = some c) : exec .commit s = .next (s.commitEvent c).pump := by
  change execCommit s = _
  unfold execCommit
  rw [hp, hflight]
  rfl

/-- The shelves of the jobs are those the commit affects; each changed placement was or is on one. -/
theorem State.commit_jobs {s : State} {c : Commit} (hcap : s.Capacities) (hlist : s.ListSound)
    (hsound : s.LocationsSound) (hloc : s.table.hasLoc c.target = true) :
    (∀ u ∈ (s.table.applyOffers c).affectedShelves, .shelf u = c.target ∨
      ∃ p, s.table.HoldsPlacement p ∧ p.loc = .shelf u) ∧
    ∀ (i : Nat) (e e' : Entry), s.table.entries[i]? = some e →
      (s.table.commit c (s.table.applyOffers c)).entries[i]? = some e' → e.placement ≠ e'.placement →
      ∀ p u, e.placement = some p ∨ e'.placement = some p → p.loc = .shelf u →
        u ∈ (s.table.applyOffers c).affectedShelves := by
  refine ⟨fun u hu => s.table.applyOffers_affected c (CommitWork.mem_affectedShelves.mp hu).2, ?_⟩
  intro i e e' he he' hne p u hp hpu
  rw [CountTable.commit_entries, List.getElem?_map, Option.map_eq_some_iff] at he'
  obtain ⟨y, hy, rfl⟩ := he'
  rw [Entry.settle_placement] at hne hp
  rcases s.table.applyOffers_changesAffected hlist.ranks_nodup c i e y he hy with hsame | haff
  · exact absurd hsame.symm hne
  · have hmem := haff p hp
    rw [CommitWork.mem_affectedShelves_of_hasLoc hcap.table
      (hpu ▸ hsound.hasLoc_of_affected hloc hmem), ← hpu]
    exact hmem

/-- With sound sightings the jobs are those of the offers placed and of the recount vacate (R99, R101). -/
theorem State.mem_commit_jobs {s : State} {c : Commit} (hcap : s.Capacities) (hlist : s.ListSound)
    (hsound : s.LocationsSound) (hloc : s.table.hasLoc c.target = true) (hsight : s.SightingsSound)
    (hflight : s.sweep.inFlight = some c) (u : Nat) :
    u ∈ (s.table.applyOffers c).affectedShelves ↔
      (∃ o ∈ c.offers, s.table.affectedByOffer c o (.shelf u)) ∨ s.table.affectedByVacate c (.shelf u) := by
  rw [← (State.offersSound hcap hlist hsight hflight).mem_affected]
  refine ⟨fun hu => (CommitWork.mem_affectedShelves.mp hu).2, fun hu => ?_⟩
  exact (CommitWork.mem_affectedShelves_of_hasLoc hcap.table (hsound.hasLoc_of_affected hloc hu)).mpr hu

/-- Settles O54: the event is that of the model's own equations, and the shelves affected are found by an
induction over the offers. -/
theorem commitIsOneEvent : Obligations.CommitIsOneEvent := by
  intro s c hcap hcontrol hlist hsound hphase hflight
  obtain ⟨-, hloc⟩ := hsound.commitTarget hcontrol hphase hflight
  have hrecord := CountTable.commit_replaced (s.table.applyOffers c) (hcap.table.hasRecord hloc)
  have hlink := (s.commitEvent_receiverKept c).trans (State.pump_receiverKept _)
  have hjobs := State.commit_jobs (c := c) hcap hlist hsound hloc
  refine ⟨(s.commitEvent c).pump, execCommit_inFlight hphase hflight, ?_⟩
  simp only [State.pump_sweep, State.pump_table, State.pump_pending, State.pump_port, State.pump_order,
    State.commitEvent_sweep, State.commitEvent_table, State.commitEvent_pending, State.commitEvent_port,
    State.commitEvent_order, OrderUnit.beginShelf_jobs]
  refine ⟨?_, ⟨hrecord.same, hrecord.other⟩, ?_, fun i hi => s.table.commit_cursor_loose c _ hi,
    fun u hu => ?_, ⟨trivial, trivial, hlink.settings, hlink.slot, hlink.parser, hlink.buffer⟩,
    ⟨CommitWork.affectedShelves_ascending _, hjobs⟩, fun hsight u => ?_, fun hnone => ?_,
    fun u rest hsome => ?_⟩
  · exact ⟨rfl, rfl, rfl, rfl, rfl, rfl, rfl⟩
  · exact ⟨by simp, by simp, by simp, by simp⟩
  · rw [s.table.commit_cursor_shelf c _ hu]
    exact ⟨fun v hv huv hlow => CountTable.nextCursor_after hv.1 hv.2.1 hv.2.2 huv hlow,
      fun hafter v hv hlow => CountTable.nextCursor_first hafter hv.1 hv.2.1 hv.2.2 hlow,
      CountTable.nextCursor_zero⟩
  · exact State.mem_commit_jobs hcap hlist hsound hloc hsight hflight u
  · simp [hnone, OrderUnit.beginShelf_current]
  · have hne : (s.table.applyOffers c).affectedShelves.isEmpty = false := by simp [hsome]
    rw [State.commitEvent_eq, hne]
    simp [hsome, OrderUnit.beginShelf]

end Sys2Proof.Machine
end

section
/-! SUPPORT. What a step can do to the expected list, the sightings and the marks, said once: most effects leave
all three alone, and the others are the changes named here. -/

namespace Sys2Proof.Machine

/-! ## What the invariants of the list, the sightings and the marks read -/

/-- A table with the list of another: its run, its load record and its entries. -/
structure CountTable.ListKept (c d : CountTable) : Prop where
  run      : d.run = c.run := by rfl
  geometry : d.geometry = c.geometry := by rfl
  load     : d.load = c.load := by rfl
  entries  : d.entries = c.entries := by rfl
  foreign  : d.foreign = c.foreign := by rfl

/-- The sweep keeps its claim, its sightings and its commit; no read joins the queue or the evidence. -/
structure State.SweepKept (s t : State) : Prop where
  claims    : t.sweep.phase.claims = s.sweep.phase.claims := by rfl
  target    : t.sweep.record.target = s.sweep.record.target := by rfl
  number    : t.sweep.record.number = s.sweep.record.number := by rfl
  sightings : t.sweep.sightings = s.sweep.sightings := by rfl
  inFlight  : t.sweep.inFlight = s.sweep.inFlight := by rfl
  queue     : t.port.queue ⊆ s.port.queue := by exact List.Subset.refl _
  records   : t.evidence.records ⊆ s.evidence.records := by exact List.Subset.refl _

/-- The list and the sweep are both kept. -/
structure State.CountKept (s t : State) : Prop where
  table : s.table.ListKept t.table := by exact {}
  sweep : s.SweepKept t := by exact {}

/-- Blocks that stand as they were. -/
theorem State.CountKept.of_eq {s t : State} (ht : t.table = s.table) (hs : t.sweep = s.sweep)
    (hq : t.port.queue = s.port.queue) (hr : t.evidence.records = s.evidence.records) : s.CountKept t where
  table := by constructor <;> rw [ht]
  sweep := by constructor <;> simp only [hs, hq, hr, List.Subset.refl]

theorem State.CountKept.rfl {s : State} : s.CountKept s := {}

theorem State.CountKept.trans {s t u : State} (h : s.CountKept t) (h' : t.CountKept u) : s.CountKept u where
  table :=
    ⟨h'.table.run.trans h.table.run, h'.table.geometry.trans h.table.geometry, h'.table.load.trans h.table.load,
      h'.table.entries.trans h.table.entries, h'.table.foreign.trans h.table.foreign⟩
  sweep :=
    ⟨h'.sweep.claims.trans h.sweep.claims, h'.sweep.target.trans h.sweep.target,
      h'.sweep.number.trans h.sweep.number, h'.sweep.sightings.trans h.sweep.sightings,
      h'.sweep.inFlight.trans h.sweep.inFlight, List.Subset.trans h'.sweep.queue h.sweep.queue,
      List.Subset.trans h'.sweep.records h.sweep.records⟩

/-! ## What the shared operations leave -/

/-- A captured copy is the only record the buffer gains (R144 to R148). -/
theorem EvidenceBuffer.capture_records (e : EvidenceBuffer) (r : StampedRead) :
    (e.capture r).records ⊆ e.records ++ [r] := by
  have hroll : (e.rollIn r).records ⊆ e.records ++ [r] := by
    unfold EvidenceBuffer.rollIn
    split
    · exact List.Subset.refl _
    · exact List.append_subset.mpr
        ⟨List.Subset.trans (List.tail_subset _) (List.subset_append_left _ _), List.subset_append_right _ _⟩
  have hsame : e.records ⊆ e.records ++ [r] := List.subset_append_left _ _
  unfold EvidenceBuffer.capture
  split
  · exact hsame
  · split
    · exact hsame
    · exact List.Subset.refl _
  · exact hroll
  · split
    · exact hsame
    · dsimp only
      split <;> exact hroll
    · exact hroll
  · split
    · exact hroll
    · exact hsame

@[simp] theorem State.evaluate_records (s : State) (k : EvalKind) (l : Loc) (n : Nat)
    (ms : List (CondCode × Nat)) : (s.evaluate k l n ms).evidence.records = s.evidence.records := by
  rcases s.evaluate_cases k l n ms with h | ⟨b, h | ⟨_, h⟩ | ⟨source, _, h⟩⟩ <;> rw [h]
  · exact (EvidenceBuffer.fall_keeps _).1
  · exact (EvidenceBuffer.rise_keeps _).1

@[simp] theorem State.completeOrder_records (s : State) :
    s.completeOrder.evidence.records = s.evidence.records := by
  unfold State.completeOrder
  dsimp only
  split <;> simp

theorem State.evaluate_countKept (s : State) (k : EvalKind) (l : Loc) (n : Nat) (ms : List (CondCode × Nat)) :
    s.CountKept (s.evaluate k l n ms) := .of_eq (by simp) (by simp) (by simp) (by simp)

theorem State.wake_countKept (s : State) (c : WakeCause) : s.CountKept (s.wake c) :=
  .of_eq (by simp) (by simp) (by simp) (by simp)

theorem State.pump_countKept (s : State) : s.CountKept s.pump :=
  .of_eq (by simp) (by simp) (by simp) (by simp)

theorem Frees.countKept {s u : State} (hf : Frees s u) : s.CountKept u := by
  cases hf <;> exact {}

@[simp] theorem State.receive_evidence (s : State) (c : Byte) : (s.receive c).evidence = s.evidence := by
  unfold State.receive
  repeat' split
  all_goals simp

@[simp] theorem State.receive_queue (s : State) (c : Byte) : (s.receive c).port.queue = s.port.queue := by
  unfold State.receive
  repeat' split
  all_goals simp

theorem State.pressCall_countKept (s : State) : s.CountKept s.pressCall := by
  unfold State.pressCall
  split <;> exact {}

/-- An open sweep that ends goes on claiming its target (R76, R77). -/
theorem State.endSweep_countKept {s : State} (hp : s.sweep.phase = .opened) : s.CountKept s.endSweep where
  sweep := { claims := by rw [hp]; rfl }

/-- ORDER has no claim, and ends without one (R79). -/
theorem State.completeOrder_countKept {s : State} (hp : s.sweep.phase = .order) :
    s.CountKept s.completeOrder where
  table := by constructor <;> simp
  sweep := by constructor <;> simp [hp, SweepPhase.claims]

/-- A count of an open sweep moves the counter, the timer, the window and the monitor. -/
theorem State.deliverCount_countKept (s : State) (target : Loc) : s.CountKept (s.deliverCount target) := by
  unfold State.deliverCount
  dsimp only
  split
  · exact {}
  split
  · refine State.CountKept.trans ?_ (State.evaluate_countKept _ _ _ _ _)
    exact {}
  · exact {}

theorem State.moveCounter_countKept (s : State) (d : Direction) (target : Loc) :
    s.CountKept (s.moveCounter d target) := by
  unfold State.moveCounter
  dsimp only
  refine State.CountKept.trans ?_ (State.deliverCount_countKept _ _)
  exact {}

/-! ## The changes -/

/-- A change of an entry that touches its standings alone. -/
def RestandsOnly (f : Entry → Entry) : Prop :=
  ∀ e, f e = { e with shelfStanding := (f e).shelfStanding, runStanding := (f e).runStanding }

/-- The changes of the list, the sightings and the marks, with what the checks before them leave true. -/
inductive Counts (s : State) : State → Prop
  | same : Counts s s
  | runBegin (g : Geometry) (hg : g.InRange) (hr : s.table.run = .empty) :
      Counts s { s with table := s.table.beginRun g }
  | file (shelf : Nat) (item : ItemCode) (st : CircStatus) (watch : Bool) (h0 : item ≠ 0)
      (hr : s.table.run = .loading) (ht : s.table.isShelf shelf = true) (hc : s.table.byCode item = none)
      (hp : s.table.load.prevShelf.getD 0 ≤ shelf) :
      Counts s { s with
        table := s.table.file ((s.table.geometry.map Geometry.items).getD 0)
          (fileEntry s.table.load.nextRank item shelf st watch) }
  | restand (r : RunState) (f : Entry → Entry) (hf : RestandsOnly f) (hs : s.table.run.hasVerdicts = true)
      (hr : r.hasVerdicts = true) :
      Counts s { s with table := { s.table with run := r, entries := s.table.entries.map f } }
  | notice (item : ItemCode) (st : CircStatus) (hr : s.table.run ≠ .empty) :
      Counts s { s with table := s.table.notice s.sweep item st }
  | discardRun : Counts s s.discardRun
  | openSweep (target : Loc) (mode : SweepMode) (hr : s.table.run = .opened) (hp : s.sweep.phase = .idle) :
      Counts s (s.openSweep target mode)
  | abandonSweep (hp : s.sweep.phase = .opened ∨ s.sweep.phase = .finalize) : Counts s s.abandonSweep
  | read (r : StampedRead) (h0 : r.code ≠ 0) (ht : s.sweep.record.target = some r.target)
      (hn : r.sweep = s.sweep.record.number) :
      Counts s { s with
        port := { s.port with queue := s.port.queue ++ [r] }
        evidence := { s.evidence with records := s.evidence.records ++ [r] } }
  | refold (code : ItemCode) (a : Additions) :
      Counts s { s with sweep := { s.sweep with sightings := foldInto code a s.sweep.sightings } }
  | sight (r : StampedRead) (a : Additions) (hp : s.sweep.phase.folds = true) (hq : r ∈ s.port.queue)
      (hn : isSighted r.code s.sweep.sightings = false) :
      Counts s { s with
        sweep := { s.sweep with
          sightings := s.sweep.sightings ++ [(newSighting r.code (s.table.kindOf r.code)).fold a] }
        table := s.table.markSighted r.code }
  | handOff (target : Loc) (mode : SweepMode) (bleed : Nat) (facts : SweepFacts)
      (hp : s.sweep.phase = .finalize) :
      Counts s { s with sweep := { s.sweep with
        phase := .commit
        inFlight := some (makeCommit s.sweep.record.number target mode bleed (s.table.pMax.getD 0) facts
          s.sweep.sightings) } }
  | commit (c : Commit) (hp : s.sweep.phase = .commit) (hc : s.sweep.inFlight = some c) :
      Counts s (s.committed c)

/-- An effect is one of the changes, with nothing of the list, the sightings and the marks touched before it
or behind it. -/
def Counted (s u : State) : Prop :=
  ∃ v w, s.CountKept v ∧ v.Controlled ∧ Counts v w ∧ w.CountKept u

theorem State.CountKept.counted {s u : State} (hc : s.Controlled) (h : s.CountKept u) : Counted s u :=
  ⟨s, s, .rfl, hc, .same, h⟩

theorem Counts.counted {s u : State} (hc : s.Controlled) (h : Counts s u) : Counted s u :=
  ⟨s, u, .rfl, hc, h, .rfl⟩

/-- What is kept before or behind an effect is no change of its own. -/
theorem Counted.kept {s v w u : State} (hv : s.CountKept v) (h : Counted v w) (hu : w.CountKept u) :
    Counted s u := by
  obtain ⟨x, y, hx, hc, hxy, hy⟩ := h
  exact ⟨x, y, hv.trans hx, hc, hxy, hy.trans hu⟩

/-! ## The requests -/

theorem restandsOnly_id : RestandsOnly id := fun _ => rfl

theorem Performs.counted {s a : State} (ha : Performs s a) (hc : s.Controlled) : Counted s a := by
  cases ha with
  | nothing => exact State.CountKept.rfl.counted hc
  | runBegin g hg hr => exact (Counts.runBegin g hg hr).counted hc
  | listItem rank shelf item st watch h0 hr ht hk hcode hp =>
    subst hk
    exact (Counts.file shelf item st watch h0 hr ht hcode hp).counted hc
  | runClose hr hp =>
    refine Counted.kept .rfl
      ((Counts.restand .closing id restandsOnly_id (by rw [hr]; rfl) rfl).counted hc)
      { table := { entries := by simp } }
  | runReopen hr =>
    exact (Counts.restand .opened (fun e => { e with runStanding := .none }) (fun _ => rfl)
      (by rw [hr]; rfl) rfl).counted hc
  | discardRun => exact Counts.discardRun.counted hc
  | notice item st hr => exact (Counts.notice item st hr).counted hc
  | openSweep target mode hr hp => exact (Counts.openSweep target mode hr hp).counted hc
  | endSweep hp => exact (State.endSweep_countKept hp).counted hc
  | abandon r hp => exact Counted.kept .rfl ((Counts.abandonSweep hp).counted hc) {}
  | cursorSet | dormancy | condition | combine | setting => exact State.CountKept.counted hc {}
  | acknowledge =>
    unfold State.acknowledge
    split
    · exact State.CountKept.counted hc (.of_eq rfl rfl rfl (EvidenceBuffer.fall_keeps _).1)
    · exact State.CountKept.rfl.counted hc
  | evidenceMode =>
    exact State.CountKept.counted hc { sweep := { records := List.nil_subset _ } }
  | evidenceRead count =>
    exact State.CountKept.counted hc { sweep := { records := List.drop_subset _ _ } }
  | softReset =>
    have hreset : ∀ v : State, State.CountKept v { v with
        link := v.link.softReset, port := v.port.reset, monitor := v.monitor.reset
        evidence := v.evidence.reset } := fun v =>
      { sweep := { queue := List.nil_subset _, records := List.nil_subset _ } }
    unfold State.softReset
    dsimp only
    split
    next hp =>
      have hp' : s.sweep.phase = .opened ∨ s.sweep.phase = .finalize := by
        simpa [SweepUnit.abandonable] using hp
      exact Counted.kept .rfl ((Counts.abandonSweep hp').counted hc) (hreset _)
    · exact (hreset s).counted hc

/-! ## The effects -/

/-- A read of sound form carries an item code (R18, R49). -/
theorem soundRead_code {r : DeliveredRead} {code : ItemCode} {strength : BitVec 8} {antenna : Antenna}
    (h : soundRead r = some (code, strength, antenna)) : code ≠ 0 := by
  unfold soundRead at h
  split at h
  · split at h
    · cases h
    next hc =>
      cases h
      exact hc
  · cases h

/-- Beside its place in the queue and its copy an accepted read changes counts, the timer and the window (R52). -/
theorem State.acceptRead_countKept (s : State) (r : StampedRead) :
    State.CountKept { s with
      port := { s.port with queue := s.port.queue ++ [r] }
      evidence := { s.evidence with records := s.evidence.records ++ [r] } } (s.acceptRead r) where
  table := by constructor <;> simp [State.acceptRead]
  sweep :=
    { claims := by simp [State.acceptRead]
      target := by simp [State.acceptRead, OpenRecord.countAccepted]
      number := by simp [State.acceptRead, OpenRecord.countAccepted]
      sightings := by simp [State.acceptRead]
      inFlight := by simp [State.acceptRead]
      queue := by simp [State.acceptRead]
      records := by
        rw [State.acceptRead, State.offerCopy_evidence]
        exact EvidenceBuffer.capture_records _ _ }

/-- A read that is accepted is stamped with the target and the number of the open sweep (R51, R52). -/
theorem State.arriveRead_counted {s : State} (hc : s.Controlled) (r : DeliveredRead) :
    Counted s (s.arriveRead r) := by
  unfold State.arriveRead
  split
  · exact State.CountKept.counted hc {}
  next code strength antenna hr =>
    split
    next target hp ht =>
      split
      · refine Counted.kept .rfl ((Counts.read (s.stamp target code strength antenna) (soundRead_code hr) ht
          rfl).counted hc) (s.acceptRead_countKept _)
      · exact State.CountKept.counted hc {}
    · exact State.CountKept.rfl.counted hc

theorem State.pressTrigger_counted {s : State} (hc : s.Controlled) : Counted s s.pressTrigger := by
  unfold State.pressTrigger
  split
  next hp =>
    unfold State.openAttempt
    split
    next hr => exact (Counts.openSweep _ _ hr.1 hp).counted hc
    · exact State.CountKept.counted hc {}
  next hp => exact (State.endSweep_countKept hp).counted hc
  · exact State.CountKept.counted hc {}

/-- The head of the read queue is folded into its sighting, or makes a new one (R71). -/
theorem State.foldRead_counted {s : State} (hc : s.Controlled) {r : StampedRead} {rest : List StampedRead}
    (hp : s.sweep.phase.folds = true) (hq : s.port.queue = r :: rest) :
    Counted s (({ s with port := { s.port with queue := rest } }).foldRead r) := by
  have hrest : rest ⊆ s.port.queue := by
    rw [hq]
    exact List.subset_cons_self _ _
  unfold State.foldRead
  dsimp only
  split
  · exact Counted.kept .rfl ((Counts.refold r.code _).counted hc) { sweep := { queue := hrest } }
  next hn =>
    split
    · exact Counted.kept .rfl
        ((Counts.sight r _ hp (by simp [hq]) (by simpa using hn)).counted hc)
        { sweep := { queue := hrest } }
    · exact State.CountKept.counted hc { sweep := { queue := hrest } }

theorem State.handOff_counted {s : State} (hc : s.Controlled) (target : Loc) (mode : SweepMode) (bleed : Nat)
    (hp : s.sweep.phase = .finalize) : Counted s (s.handOff target mode bleed) := by
  unfold State.handOff
  dsimp only
  refine Counted.kept .rfl ((Counts.handOff target mode bleed { s.sweep.record.facts with
    acrossAisle := s.sweep.sightings.countP (Sighting.acrossAisle bleed) } hp).counted hc)
    (State.CountKept.trans ?_ (State.evaluate_countKept _ _ _ _ _))
  exact {}

theorem State.commitEvent_counted {s : State} (hc : s.Controlled) {c : Commit} (hp : s.sweep.phase = .commit)
    (hflight : s.sweep.inFlight = some c) : Counted s (s.commitEvent c) := by
  have h := (Counts.commit c hp hflight).counted hc
  rw [State.commitEvent_eq]
  split
  · exact Counted.kept .rfl h (State.completeOrder_countKept (by rw [State.committed_sweep]; rfl))
  · exact h

theorem State.completeShelfJob_counted {s : State} (hc : s.Controlled) (hp : s.sweep.phase = .order) :
    Counted s s.completeShelfJob := by
  have hopen : s.table.run = .opened := (hc.sweepInOpenRun (by simp [hp])).1
  have hdone : Counted s s.shelfJobDone := by
    refine Counted.kept .rfl ((Counts.restand s.table.run (fun e => if e.rank ∈ s.order.piles.ranks then
      { e with shelfStanding := s.order.piles.standing e.rank } else e) (fun e => ?_)
      (by rw [hopen]; rfl) (by rw [hopen]; rfl)).counted hc) {}
    dsimp only
    split <;> rfl
  rw [State.completeShelfJob_eq]
  split
  · exact Counted.kept .rfl hdone (State.completeOrder_countKept hp)
  · exact hdone

theorem State.completeRunJob_counted {s : State} (hc : s.Controlled) (hj : s.order.current = .run) :
    Counted s s.completeRunJob := by
  have hr : s.table.run = .closing := hc.runJobInClosing.mp hj
  exact Counted.kept .rfl ((Counts.restand .closed (fun e => { e with
    runStanding := if e.rank ∈ s.order.piles.ranks then s.order.piles.standing e.rank else .none })
    (fun _ => rfl) (by rw [hr]; rfl) rfl).counted hc) {}

/-- Every effect is one of the changes. -/
theorem Effect.counted {s u : State} (he : Effect s u) (hc : s.Controlled) : Counted s u := by
  have hperforms : ∀ {v a}, Frees s v → Performs v a → Counted s a := fun hf ha =>
    Counted.kept hf.countKept (ha.counted (hf.controlled hc).1) .rfl
  cases he with
  | replied u w code fields hf => exact State.CountKept.counted hc (hf.countKept.trans {})
  | performed u _ hf ha => exact hperforms hf ha
  | performedReplied u a w fields hf ha =>
    exact Counted.kept .rfl (hperforms hf ha) {}
  | filing | barrierWaits | fetch | transmissionEnd | switch | patternEnd | looseCount =>
    exact State.CountKept.counted hc {}
  | character c => exact State.CountKept.counted hc (.of_eq (by simp) (by simp) (by simp) (by simp))
  | read r => exact s.arriveRead_counted hc r
  | shelfCount d t => exact (s.moveCounter_countKept d _).counted hc
  | trigger => exact Counted.kept (s.wake_countKept _) (State.pressTrigger_counted (hc.wake _)) .rfl
  | call => exact ((s.wake_countKept _).trans (State.pressCall_countKept _)).counted hc
  | idleExpiry hp =>
    exact Counted.kept .rfl ((Counts.abandonSweep (.inl hp)).counted hc) {}
  | fold r rest hp hq => exact s.foldRead_counted hc hp hq
  | handOff target mode bleed hp => exact s.handOff_counted hc target mode bleed hp
  | commit c hp hflight => exact s.commitEvent_counted hc hp hflight
  | shelfJob t hj => exact s.completeShelfJob_counted hc (hc.inOrder hj)
  | runJob hj => exact s.completeRunJob_counted hc hj

/-- A property that reads only the list, the sightings and the marks, that holds at power-on, and that every
change establishes where `H` holds, holds after a step. -/
theorem step_keeps_counted {H G : State → Prop} (hH : ∀ {s t}, State.CountKept s t → H s → H t)
    (hG : ∀ {s t}, State.CountKept s t → G s → G t) (hHG : ∀ s, H s → G s)
    (hon : ∀ strap switch pending, G (State.powerOn strap switch pending))
    (hcounts : ∀ {s t}, s.Controlled → H s → Counts s t → G t) {s t : State} (hc : s.Controlled) (hs : H s)
    (h : step s = .next t) : G t := by
  refine step_keeps (H := fun s => s.Controlled ∧ H s)
    (fun s _ ⟨hc, hs⟩ => ⟨{ hc with }, hH (s := s) {} hs⟩) (fun s hs => hHG s hs.2) hon ?_
    ⟨hc, hs⟩ h
  rintro s u ⟨hc, hs⟩ he
  obtain ⟨v, w, hsv, hv, hvw, hwu⟩ := he.counted hc
  exact hG (hwu.trans (State.pump_countKept u)) (hcounts hv (hH hsv hs) hvw)

end Sys2Proof.Machine
end

section
/-! SUPPORT. The expected list and the foreign list are kept sound by every step. -/

namespace Sys2Proof.Machine

/-! ## The list by rank, code and shelf -/

/-- What the list is sound by: rank, code and expected shelf (R17, R18). -/
def Entry.listed (e : Entry) : Nat × ItemCode × Nat := (e.rank, e.code, e.shelf)

/-- The ranks, codes and shelves of the entries, the load record and the geometry are those of another table. -/
structure CountTable.SameList (c d : CountTable) : Prop where
  entries  : d.entries.map Entry.listed = c.entries.map Entry.listed := by rfl
  load     : d.load = c.load := by rfl
  geometry : d.geometry = c.geometry := by rfl

/-- A change of entries that keeps rank, code and shelf. -/
theorem map_listed_of_map {f : Entry → Entry} (hf : ∀ e, (f e).listed = e.listed) (es : List Entry) :
    (es.map f).map Entry.listed = es.map Entry.listed := by
  simp only [List.map_map, Function.comp_def, hf]

theorem CountTable.ListKept.sameList {c d : CountTable} (h : c.ListKept d) : c.SameList d :=
  ⟨by rw [h.entries], h.load, h.geometry⟩

section
variable {c d : CountTable}

theorem CountTable.SameList.length (h : c.SameList d) : d.entries.length = c.entries.length := by
  simpa using congrArg List.length h.entries

theorem CountTable.SameList.ranks (h : c.SameList d) : d.entries.map (·.rank) = c.entries.map (·.rank) := by
  simpa [Function.comp_def, Entry.listed] using congrArg (List.map (fun x => x.1)) h.entries

theorem CountTable.SameList.codes (h : c.SameList d) : d.entries.map (·.code) = c.entries.map (·.code) := by
  simpa [Function.comp_def, Entry.listed] using congrArg (List.map (fun x => x.2.1)) h.entries

theorem CountTable.SameList.shelves (h : c.SameList d) : d.entries.map (·.shelf) = c.entries.map (·.shelf) := by
  simpa [Function.comp_def, Entry.listed] using congrArg (List.map (fun x => x.2.2)) h.entries

theorem CountTable.SameList.isShelf (h : c.SameList d) (t : Nat) : d.isShelf t = c.isShelf t := by
  simp [CountTable.isShelf, CountTable.shelfCount_congr h.geometry]

/-- No entry holds the code. -/
theorem CountTable.byCode_eq_none {k : ItemCode} : c.byCode k = none ↔ k ∉ c.entries.map (·.code) := by
  simp [CountTable.byCode, List.find?_eq_none]

theorem CountTable.byCode_some {k : ItemCode} {e : Entry} (h : c.byCode k = some e) :
    e ∈ c.entries ∧ e.code = k :=
  ⟨List.mem_of_find?_eq_some h, by simpa using List.find?_some h⟩

/-- The kind of a code is foreign exactly when no entry holds it (R71). -/
theorem CountTable.kindOf_eq_foreign {k : ItemCode} :
    c.kindOf k = .foreign ↔ k ∉ c.entries.map (·.code) := by
  rw [← CountTable.byCode_eq_none]
  unfold CountTable.kindOf
  cases c.byCode k <;> simp

/-- The code of an entry names it where no two entries share one (R18, R27). -/
theorem CountTable.kindOf_of_mem (hn : (c.entries.map (·.code)).Nodup) {e : Entry} (he : e ∈ c.entries) :
    c.kindOf e.code = .listed e.rank := by
  unfold CountTable.kindOf
  cases hx : c.byCode e.code with
  | none => exact absurd (List.mem_map.mpr ⟨e, he, rfl⟩) (CountTable.byCode_eq_none.mp hx)
  | some x =>
    obtain ⟨hmem, hcode⟩ := CountTable.byCode_some hx
    rw [List.inj_on_of_nodup_map hn hmem he hcode]

/-- The lookup by code reads rank and code alone. -/
theorem CountTable.kindOf_eq_find (c : CountTable) (k : ItemCode) :
    c.kindOf k = (((c.entries.map Entry.listed).find? (fun x => x.2.1 == k)).map
      (fun x => SightingKind.listed x.1)).getD .foreign := by
  have hfind : (c.entries.map Entry.listed).find? (fun x => x.2.1 == k) = (c.byCode k).map Entry.listed :=
    List.find?_map
  rw [hfind]
  unfold CountTable.kindOf
  cases c.byCode k <;> rfl

theorem CountTable.SameList.kindOf (h : c.SameList d) (k : ItemCode) : d.kindOf k = c.kindOf k := by
  rw [CountTable.kindOf_eq_find, CountTable.kindOf_eq_find, h.entries]

end

/-! ## The list carried from table to table -/

/-- A run that keeps its state or goes from one sealed state to another (R3 to R6). -/
def RunState.GoesTo (r r' : RunState) : Prop :=
  r' = r ∨ (r.hasVerdicts = true ∧ r'.hasVerdicts = true)

theorem RunState.GoesTo.hasVerdicts {r r' : RunState} (h : r.GoesTo r') : r'.hasVerdicts = r.hasVerdicts := by
  rcases h with rfl | ⟨h, h'⟩
  · rfl
  · rw [h, h']

theorem RunState.GoesTo.eq_of_unsealed {r r' : RunState} (h : r.GoesTo r') (hr : r'.hasVerdicts = false) :
    r' = r :=
  h.resolve_right (fun hv => by simp [hr] at hv)

/-- The list of a table stays sound where ranks, codes and shelves are kept, with a foreign list that changes
in a sealed run alone. -/
theorem State.ListSound.carried {s t : State} (h : s.ListSound) (hl : s.table.SameList t.table)
    (hrun : s.table.run.GoesTo t.table.run)
    (hcodes : (s.table.entries.map (·.code) ++ t.table.foreign.map (·.code)).Nodup)
    (hforeign : t.table.run.hasVerdicts = false → t.table.foreign = s.table.foreign) : t.ListSound where
  ranks := by rw [hl.ranks, hl.length, h.ranks]
  codes := by rw [hl.codes]; exact hcodes
  nonzero e he := by
    have hmem : e.code ∈ s.table.entries.map (·.code) := hl.codes ▸ List.mem_map_of_mem he
    obtain ⟨x, hx, hxe⟩ := List.mem_map.mp hmem
    exact hxe ▸ h.nonzero x hx
  shelves := by rw [hl.shelves]; exact h.shelves
  onShelves e he := by
    have hmem : e.shelf ∈ s.table.entries.map (·.shelf) := hl.shelves ▸ List.mem_map_of_mem he
    obtain ⟨x, hx, hxe⟩ := List.mem_map.mp hmem
    rw [hl.isShelf, ← hxe]
    exact h.onShelves x hx
  emptyRun hr := by
    have hv : t.table.run.hasVerdicts = false := by rw [hr]; rfl
    obtain ⟨he, hf⟩ := h.emptyRun ((hrun.eq_of_unsealed hv).symm.trans hr)
    refine ⟨List.length_eq_zero_iff.mp ?_, (hforeign hv).trans hf⟩
    rw [hl.length, he, List.length_nil]
  loading hr := by
    have hv : t.table.run.hasVerdicts = false := by rw [hr]; rfl
    rw [hl.load, hl.geometry, hl.length, hforeign hv, ← List.getLast?_map, hl.shelves, List.getLast?_map]
    exact h.loading ((hrun.eq_of_unsealed hv).symm.trans hr)
  isSealed hr := by
    have hitems : t.table.items = s.table.items := by simp [CountTable.items, hl.geometry]
    rw [hl.load, hl.length, hitems]
    exact h.isSealed (hrun.hasVerdicts ▸ hr)

/-- The list of a table stays sound where the entries' ranks, codes and shelves and the foreign list are kept. -/
theorem State.ListSound.congr {s t : State} (h : s.ListSound) (hl : s.table.SameList t.table)
    (hrun : s.table.run.GoesTo t.table.run) (hforeign : t.table.foreign = s.table.foreign) : t.ListSound :=
  h.carried hl hrun (by rw [hforeign]; exact h.codes) (fun _ => hforeign)

theorem State.ListSound.kept {s t : State} (hk : s.CountKept t) (h : s.ListSound) : t.ListSound :=
  h.congr hk.table.sameList (.inl hk.table.run) hk.table.foreign

/-- A table without entries in EMPTY is sound (R19). -/
theorem State.listSound_of_empty {s : State} (hr : s.table.run = .empty) (he : s.table.entries = [])
    (hf : s.table.foreign = []) : s.ListSound := by
  constructor <;> simp [hr, he, hf, RunState.hasVerdicts]

/-! ## What the changes leave of the list -/

theorem RestandsOnly.listed {f : Entry → Entry} (hf : RestandsOnly f) (e : Entry) : (f e).listed = e.listed := by
  rw [hf e]
  rfl

theorem Entry.notice_listed (run : RunState) (windowOpen : Bool) (n : Nat) (st : CircStatus) (e : Entry) :
    (e.notice run windowOpen n st).listed = e.listed := by
  unfold Entry.notice
  split
  · rfl
  split
  · rfl
  · cases st <;> rfl

theorem CountTable.notice_sameList (c : CountTable) (u : SweepUnit) (k : ItemCode) (st : CircStatus) :
    c.SameList (c.notice u k st) where
  entries := map_listed_of_map (fun e => by
    split
    · exact Entry.notice_listed _ _ _ _ _
    · rfl) c.entries

theorem CountTable.markSighted_sameList (c : CountTable) (k : ItemCode) : c.SameList (c.markSighted k) where
  entries := map_listed_of_map (fun e => by split <;> rfl) c.entries

/-- The marks of an entry when its sweep is abandoned (R81). -/
theorem CountTable.abandon_entries (c : CountTable) (l : Loc) (ranks : List Nat) :
    (c.abandon l ranks).entries = c.entries.map (fun e => Entry.settleReturned l (e.clearInSweep ranks)) := by
  simp [CountTable.abandon]

theorem CountTable.abandon_sameList (c : CountTable) (l : Loc) (ranks : List Nat) :
    c.SameList (c.abandon l ranks) where
  entries := by
    rw [CountTable.abandon_entries]
    refine map_listed_of_map (fun e => ?_) c.entries
    unfold Entry.settleReturned Entry.clearInSweep
    split_ifs <;> rfl
  load := by simp [CountTable.abandon]
  geometry := by simp

@[simp] theorem CountTable.abandon_foreign (c : CountTable) (l : Loc) (ranks : List Nat) :
    (c.abandon l ranks).foreign = c.foreign := by
  simp [CountTable.abandon]

/-- A sweep that is abandoned has a target, and its table is abandoned with it (R65, R81). -/
theorem State.Controlled.abandonSweep_table {s : State} (h : s.Controlled)
    (hp : s.sweep.phase = .opened ∨ s.sweep.phase = .finalize) :
    ∃ target, s.sweep.record.target = some target ∧
      s.abandonSweep.table = s.table.abandon target (listedRanks s.sweep.sightings) := by
  have hn : s.sweep.phase ≠ .idle := by rcases hp with hp | hp <;> simp [hp]
  obtain ⟨target, ht⟩ := Option.isSome_iff_exists.mp (h.sweepInOpenRun hn).2.1
  exact ⟨target, ht, by simp [State.abandonSweep, ht]⟩

theorem Entry.settle_listed (c : Commit) (w : CommitWork) (e : Entry) : (e.settle c w).listed = e.listed := by
  unfold Entry.settle Entry.convertReturned Entry.clearInSweep Entry.settleStanding
  split_ifs <;> rfl

@[simp] theorem CountTable.commit_foreign (t : CountTable) (c : Commit) (w : CommitWork) :
    (t.commit c w).foreign = w.foreign := by
  unfold CountTable.commit
  rw [CountTable.moveCursor_eq]
  simp

/-! ## The commit (R94 to R98) -/

/-- An offer keeps the ranks, codes and shelves of the entries. -/
theorem Applies.listed {g : Option Geometry} {c : Commit} {before : List Entry} {o : Offer} {w w' : CommitWork}
    (h : Applies g c before o w w') : w'.entries.map Entry.listed = w.entries.map Entry.listed := by
  cases h
  case placedListed => exact map_listed_of_map (fun e => by split <;> rfl) w.entries
  all_goals rfl

theorem CountTable.applyOffers_listed (t : CountTable) (c : Commit) :
    (t.applyOffers c).entries.map Entry.listed = t.entries.map Entry.listed := by
  refine t.applyOffers_induction c (P := fun _ w => w.entries.map Entry.listed = t.entries.map Entry.listed) ?_
    (fun _ _ _ _ _ _ hw ha => ha.listed.trans hw)
  unfold CountTable.offersStart
  split
  · exact map_listed_of_map (fun e => by unfold Entry.vacate; split <;> rfl) t.entries
  · rfl

theorem CountTable.commit_sameList (t : CountTable) (c : Commit) :
    t.SameList (t.commit c (t.applyOffers c)) where
  entries := by
    rw [CountTable.commit_entries, map_listed_of_map (Entry.settle_listed c _), CountTable.applyOffers_listed]
  load := by simp
  geometry := by simp

/-- An offer keeps the codes of the foreign list, or adds its own, which the list lacks (R97, R98). -/
theorem Applies.foreign_codes {g : Option Geometry} {c : Commit} {before : List Entry} {o : Offer}
    {w w' : CommitWork} (h : Applies g c before o w w') :
    w'.foreign.map (·.code) = w.foreign.map (·.code) ∨
    (o.kind = .foreign ∧ o.code ∉ w.foreign.map (·.code) ∧
      w'.foreign.map (·.code) = w.foreign.map (·.code) ++ [o.code]) := by
  have hkeep : ∀ f : ForeignEntry → ForeignEntry, (∀ x, (f x).code = x.code) →
      (w.foreign.map f).map (·.code) = w.foreign.map (·.code) := by
    intro f hf
    simp only [List.map_map, Function.comp_def, hf]
  cases h with
  | lost | keptListed | placedListed | droppedForeign => exact .inl rfl
  | keptForeign | movedForeign => exact .inl (hkeep _ (fun x => by split <;> rfl))
  | addedForeign hk hn hroom =>
    refine .inr ⟨hk, fun hmem => ?_, by simp⟩
    obtain ⟨f, hf, hfo⟩ := List.mem_map.mp hmem
    exact List.find?_eq_none.mp hn f hf (by simpa using hfo)

/-- The commit leaves every code once in the two lists: a newcomer is neither expected nor listed (R18, R98). -/
theorem CountTable.applyOffers_codes {t : CountTable} {c : Commit}
    (hn : (t.entries.map (·.code) ++ t.foreign.map (·.code)).Nodup)
    (hkinds : ∀ o ∈ c.offers, o.kind = t.kindOf o.code) :
    (t.entries.map (·.code) ++ (t.applyOffers c).foreign.map (·.code)).Nodup := by
  refine t.applyOffers_induction c
    (P := fun _ w => (t.entries.map (·.code) ++ w.foreign.map (·.code)).Nodup) ?_ ?_
  · unfold CountTable.offersStart
    split
    · exact hn.sublist (((List.filter_sublist).map _).append_left _)
    · exact hn
  · intro done o rest w w' hoffers hw ha
    rcases ha.foreign_codes with hsame | ⟨hk, hnew, hadd⟩
    · rw [hsame]
      exact hw
    · have hentry : o.code ∉ t.entries.map (·.code) :=
        CountTable.kindOf_eq_foreign.mp ((hkinds o (by simp [hoffers])).symm.trans hk)
      rw [hadd, ← List.append_assoc]
      refine List.nodup_append.mpr ⟨hw, List.nodup_singleton _, fun x hx y hy hxy => ?_⟩
      rw [hxy, List.mem_singleton.mp hy] at hx
      exact (List.mem_append.mp hx).elim hentry hnew

theorem State.ListSound.committed {s : State} (h : s.ListSound) (hc : s.Controlled) (hs : s.SightingsSound)
    {c : Commit} (hp : s.sweep.phase = .commit) (hflight : s.sweep.inFlight = some c) :
    (s.committed c).ListSound := by
  have hrun : s.table.run = .opened := (hc.sweepInOpenRun (by simp [hp])).1
  have htable : (s.committed c).table = s.table.commit c (s.table.applyOffers c) := State.committed_table s c
  refine h.carried ?_ (.inl ?_) ?_ (fun hv => ?_)
  · rw [htable]
    exact s.table.commit_sameList c
  · rw [htable, CountTable.commit_run]
  · rw [htable, CountTable.commit_foreign]
    exact CountTable.applyOffers_codes h.codes (fun o ho => ((hs.offers c hflight).2 o ho).1)
  · rw [htable, CountTable.commit_run, hrun] at hv
    cases hv

/-! ## The run and the filing (R2, R19, R23) -/

theorem State.ListSound.beginRun {s : State} (h : s.ListSound) {g : Geometry} (hg : g.InRange)
    (hr : s.table.run = .empty) : State.ListSound { s with table := s.table.beginRun g } := by
  obtain ⟨he, hf⟩ := h.emptyRun hr
  have hitems : 1 ≤ g.items := hg.2.2.2.1
  constructor <;>
    simp [CountTable.beginRun, LoadRecord.start, he, hf, RunState.hasVerdicts, Nat.lt_of_lt_of_le Nat.one_pos hitems]

/-- In an ascending list no number lies above the last. -/
theorem le_of_getLast_le {xs : List Nat} {k : Nat} (hx : xs.Pairwise (· ≤ ·)) (hk : xs.getLast?.getD 0 ≤ k) :
    ∀ x ∈ xs, x ≤ k := by
  rcases xs.eq_nil_or_concat with rfl | ⟨ys, y, rfl⟩
  · simp
  · simp only [List.concat_eq_append, List.getLast?_append, List.getLast?_singleton, Option.some_or,
      Option.getD_some, List.pairwise_append, List.mem_append, List.mem_singleton] at hx hk ⊢
    rintro x (hxs | rfl)
    · exact (hx.2.2 x hxs y rfl).trans hk
    · exact hk

/-- An entry filed with the next rank, a code not yet listed and a shelf no lower than the last (R21, R23). -/
theorem State.ListSound.file {s : State} (h : s.ListSound) {g : Geometry} (hg : s.table.geometry = some g)
    {shelf : Nat} {item : ItemCode} (st : CircStatus) (watch : Bool) (h0 : item ≠ 0)
    (hr : s.table.run = .loading) (ht : s.table.isShelf shelf = true) (hc : s.table.byCode item = none)
    (hp : s.table.load.prevShelf.getD 0 ≤ shelf) :
    State.ListSound { s with
      table := s.table.file g.items (fileEntry s.table.load.nextRank item shelf st watch) } := by
  obtain ⟨hnext, hfiled, hprev, hforeign, hroom⟩ := h.loading hr
  have hlt := hroom g hg
  have hrank : s.table.load.nextRank = g.items ↔ s.table.entries.length + 1 = g.items := by rw [hnext]
  have hnew := CountTable.byCode_eq_none.mp hc
  have hlast : ∀ x ∈ s.table.entries.map (·.shelf), x ≤ shelf :=
    le_of_getLast_le h.shelves (by rw [List.getLast?_map, ← hprev]; exact hp)
  constructor
  case ranks => simp [CountTable.file, fileEntry, h.ranks, hnext, List.range_succ]
  case codes =>
    have hcodes : (s.table.entries.map (·.code)).Nodup := (List.nodup_append.mp h.codes).1
    simp only [CountTable.file, fileEntry, hforeign, List.map_append, List.map_cons, List.map_nil,
      List.append_nil]
    refine List.nodup_append.mpr ⟨hcodes, List.nodup_singleton _, fun x hx y hy hxy => hnew ?_⟩
    rwa [hxy, List.mem_singleton.mp hy] at hx
  case nonzero =>
    intro e he
    rcases List.mem_append.mp he with he | he
    · exact h.nonzero e he
    · rw [List.mem_singleton.mp he]
      exact h0
  case shelves =>
    simp only [CountTable.file, fileEntry, List.map_append, List.map_cons, List.map_nil]
    refine List.pairwise_append.mpr ⟨h.shelves, List.pairwise_singleton _ _, fun x hx y hy => ?_⟩
    rw [List.mem_singleton.mp hy]
    exact hlast x hx
  case onShelves =>
    intro e he
    rcases List.mem_append.mp he with he | he
    · exact h.onShelves e he
    · rw [List.mem_singleton.mp he]
      exact ht
  case emptyRun =>
    intro he
    simp only [CountTable.file, fileEntry, hr] at he
    split at he <;> cases he
  case loading =>
    intro hl
    have hmore : s.table.load.nextRank ≠ g.items := by
      intro heq
      simp [CountTable.file, fileEntry, heq] at hl
    have hmore' := hrank.not.mp hmore
    refine ⟨?_, ?_, by simp [CountTable.file, fileEntry, LoadRecord.advance], hforeign, fun g' hg' => ?_⟩
    · simp [CountTable.file, fileEntry, LoadRecord.advance, hnext]
      omega
    · simp [CountTable.file, LoadRecord.advance, hfiled]
    · have hgg : g' = g := Option.some.inj (hg'.symm.trans hg)
      simp only [CountTable.file, List.length_append, List.length_singleton, hgg]
      omega
  case isSealed =>
    intro hv
    have hend : s.table.load.nextRank = g.items := by
      by_contra hne
      simp [CountTable.file, fileEntry, hne, hr, RunState.hasVerdicts] at hv
    have hend' := hrank.mp hend
    refine ⟨by simp [CountTable.file, fileEntry, LoadRecord.advance, hend], ?_, ?_⟩
    · simp [CountTable.file, LoadRecord.advance, hfiled]
    · simp [CountTable.file, CountTable.items, hg, hend']

/-! ## Every step -/

/-- Every change keeps the list sound. -/
theorem Counts.listSound {s t : State} (hc : s.Controlled) (h : s.ListSound) (hs : s.SightingsSound)
    (hst : Counts s t) : t.ListSound := by
  cases hst with
  | same => exact h
  | runBegin g hg hr => exact h.beginRun hg hr
  | file shelf item st watch h0 hr ht hcode hp =>
    have hne : s.table.geometry ≠ none := hc.geometryInRun.not.mpr (by simp [hr])
    obtain ⟨g, hg⟩ := Option.ne_none_iff_exists'.mp hne
    simp only [hg, Option.map_some, Option.getD_some]
    exact h.file hg st watch h0 hr ht hcode hp
  | restand r f hf hv hr => exact h.congr { entries := map_listed_of_map hf.listed _ } (.inr ⟨hv, hr⟩) rfl
  | notice item st hr => exact h.congr (s.table.notice_sameList _ _ _) (.inl rfl) rfl
  | discardRun =>
    by_cases hr : s.table.run = .empty
    · obtain ⟨he, hf⟩ := h.emptyRun hr
      exact State.listSound_of_empty (by simp [CountTable.discard, hr]) (by simp [CountTable.discard, hr, he])
        (by simp [CountTable.discard, hr, hf])
    · have ht : s.discardRun.table = CountTable.cleared := by simp [CountTable.discard, hr]
      exact State.listSound_of_empty (by rw [ht]; rfl) (by rw [ht]; rfl) (by rw [ht]; rfl)
  | openSweep target mode =>
    exact h.congr ⟨by simp [State.openSweep], by simp [State.openSweep], by simp [State.openSweep]⟩
      (.inl (by simp [State.openSweep])) (by simp [State.openSweep])
  | abandonSweep hp =>
    obtain ⟨target, -, ht⟩ := hc.abandonSweep_table hp
    exact h.congr (ht ▸ s.table.abandon_sameList _ _) (.inl (by simp)) (by simp [ht])
  | read | refold | handOff => exact h.congr {} (.inl rfl) rfl
  | sight r a hp hq hn => exact h.congr (s.table.markSighted_sameList _) (.inl rfl) rfl
  | commit c hp hflight => exact h.committed hc hs hp hflight

/-- The list is sound at power-on. -/
theorem State.powerOn_listSound (strap : BaudRate) (switch : SwitchPosition) (pending : List Instr) :
    (State.powerOn strap switch pending).ListSound :=
  State.listSound_of_empty rfl rfl rfl

end Sys2Proof.Machine
end

section
/-! SUPPORT. Reads, sightings and offers are kept sound by every step. -/

namespace Sys2Proof.Machine

/-! ## The clauses carried from state to state -/

/-- The reads, sightings and offers stay sound where the sweep and the lookup by code are kept, with a foreign
list of item codes. -/
theorem State.SightingsSound.carried {s t : State} (h : s.SightingsSound) (hk : s.SweepKept t)
    (hl : s.table.SameList t.table) (hf : ∀ f ∈ t.table.foreign, f.code ≠ 0) : t.SightingsSound where
  codes := by rw [hk.sightings]; exact h.codes
  kinds := by simpa only [hk.sightings, hl.kindOf] using h.kinds
  offers := by
    rw [hk.inFlight, CountTable.pMax_congr hl.geometry]
    simpa only [hl.kindOf] using h.offers
  nonzero := by
    obtain ⟨hqueue, hsight, -, hrecords⟩ := h.nonzero
    exact ⟨fun r hr => hqueue r (hk.queue hr), hk.sightings ▸ hsight, hf, fun r hr => hrecords r (hk.records hr)⟩
  stamps r hr := by
    rw [hk.target, hk.number]
    exact h.stamps r (hk.queue hr)

theorem State.SightingsSound.kept {s t : State} (hk : s.CountKept t) (h : s.SightingsSound) :
    t.SightingsSound :=
  h.carried hk.sweep hk.table.sameList (hk.table.foreign ▸ h.nonzero.2.2.1)

/-- A change of the table alone that keeps the lookup by code and the foreign list. -/
theorem State.SightingsSound.withTable {s : State} (h : s.SightingsSound) {c : CountTable}
    (hl : s.table.SameList c) (hf : c.foreign = s.table.foreign) :
    State.SightingsSound { s with table := c } :=
  h.carried {} hl (hf ▸ h.nonzero.2.2.1)

/-- Without a sweep the sighting table and the read queue are empty and no commit is in flight (R54, R70, R78). -/
theorem State.Controlled.idle_empty {s : State} (h : s.Controlled) (hp : s.sweep.phase = .idle) :
    s.sweep.sightings = [] ∧ s.port.queue = [] ∧ s.sweep.inFlight = none :=
  ⟨h.tableWhileClaimed (by rw [hp]; rfl), h.queueWhileFolding (by rw [hp]; rfl), h.noCommit (by simp [hp])⟩

/-- With no read, no sighting and no commit the two lists of codes are all there is. -/
theorem State.sightingsSound_of_idle {s : State} (hx : s.sweep.sightings = []) (hq : s.port.queue = [])
    (hi : s.sweep.inFlight = none) (hf : ∀ f ∈ s.table.foreign, f.code ≠ 0)
    (hr : ∀ r ∈ s.evidence.records, r.code ≠ 0) : s.SightingsSound where
  codes := by simp [hx]
  kinds := by simp [hx]
  offers := by simp [hi]
  nonzero := ⟨by simp [hq], by simp [hx], hf, hr⟩
  stamps := by simp [hq]

/-! ## The fold (R71) -/

@[simp] theorem Sighting.fold_code (x : Sighting) (a : Additions) : (x.fold a).code = x.code := by
  unfold Sighting.fold Sighting.accumulate
  dsimp only
  split_ifs <;> rfl

@[simp] theorem Sighting.fold_kind (x : Sighting) (a : Additions) : (x.fold a).kind = x.kind := by
  unfold Sighting.fold Sighting.accumulate
  dsimp only
  split_ifs <;> rfl

/-- A fold keeps the codes and kinds of the sightings. -/
theorem foldInto_codes (k : ItemCode) (a : Additions) (xs : List Sighting) :
    (foldInto k a xs).map (·.code) = xs.map (·.code) := by
  unfold foldInto
  rw [List.map_map]
  refine List.map_congr_left (fun x _ => ?_)
  simp only [Function.comp_apply]
  split
  · exact x.fold_code a
  · rfl

theorem mem_foldInto {k : ItemCode} {a : Additions} {xs : List Sighting} {y : Sighting}
    (hy : y ∈ foldInto k a xs) : ∃ x ∈ xs, y.code = x.code ∧ y.kind = x.kind := by
  obtain ⟨x, hx, rfl⟩ := List.mem_map.mp hy
  refine ⟨x, hx, ?_⟩
  split
  · exact ⟨x.fold_code a, x.fold_kind a⟩
  · exact ⟨rfl, rfl⟩

theorem State.SightingsSound.refold {s : State} (h : s.SightingsSound) (k : ItemCode) (a : Additions) :
    State.SightingsSound { s with sweep := { s.sweep with sightings := foldInto k a s.sweep.sightings } } :=
  { h with
    codes := by
      dsimp only
      rw [foldInto_codes]
      exact h.codes
    kinds := fun y hy => by
      obtain ⟨x, hx, hcode, hkind⟩ := mem_foldInto hy
      rw [hkind, hcode]
      exact h.kinds x hx
    nonzero := by
      refine ⟨h.nonzero.1, fun y hy => ?_, h.nonzero.2.2⟩
      obtain ⟨x, hx, hcode, -⟩ := mem_foldInto hy
      rw [hcode]
      exact h.nonzero.2.1 x hx }

/-- A read of a new code makes the sighting its lookup names, and leaves the lookup as it was. -/
theorem State.SightingsSound.sight {s : State} (h : s.SightingsSound) {r : StampedRead} (a : Additions)
    (hq : r ∈ s.port.queue) (hn : isSighted r.code s.sweep.sightings = false) :
    State.SightingsSound { s with
      sweep := { s.sweep with
        sightings := s.sweep.sightings ++ [(newSighting r.code (s.table.kindOf r.code)).fold a] }
      table := s.table.markSighted r.code } := by
  have hnew : r.code ∉ s.sweep.sightings.map (·.code) := by simpa [isSighted] using hn
  have hsighting : ∀ x ∈ s.sweep.sightings ++ [(newSighting r.code (s.table.kindOf r.code)).fold a],
      x ∈ s.sweep.sightings ∨ (x.code = r.code ∧ x.kind = s.table.kindOf r.code) := by
    intro x hx
    refine (List.mem_append.mp hx).imp_right (fun hx => ?_)
    rw [List.mem_singleton.mp hx]
    exact ⟨Sighting.fold_code _ _, Sighting.fold_kind _ _⟩
  have h' := h.withTable (s.table.markSighted_sameList r.code) rfl
  refine { h' with codes := ?_, kinds := fun x hx => ?_, nonzero := ⟨h.nonzero.1, fun x hx => ?_, h.nonzero.2.2⟩ }
  · dsimp only
    rw [List.map_append, List.map_singleton, Sighting.fold_code]
    refine List.nodup_append.mpr ⟨h.codes, List.nodup_singleton _, fun x hx y hy hxy => hnew ?_⟩
    rwa [hxy, List.mem_singleton.mp hy] at hx
  · rcases hsighting x hx with hx | ⟨hcode, hkind⟩
    · exact h'.kinds x hx
    · rw [hcode, hkind]
      exact ((s.table.markSighted_sameList r.code).kindOf r.code).symm
  · rcases hsighting x hx with hx | ⟨hcode, -⟩
    · exact h.nonzero.2.1 x hx
    · rw [hcode]
      exact h.nonzero.1 r hq

/-! ## The hand-off (R78, R90, R91) -/

/-- An offer has a strength exactly with a position (R90, R91). -/
theorem Sighting.offer_strength (x : Sighting) (target : Loc) (pMax : Nat) :
    (x.offer target pMax).position = none ↔ (x.offer target pMax).strength = 0 := by
  unfold Sighting.offer
  dsimp only
  cases hp : x.position target pMax with
  | none => simp
  | some n =>
    have hfront : 0 < x.front := by
      unfold Sighting.position at hp
      split at hp
      next hc =>
        simp only [Bool.and_eq_true, decide_eq_true_eq] at hc
        exact hc.2
      · cases hp
    simp only [reduceCtorEq, Option.isSome_some, if_true, false_iff]
    exact Nat.mul_ne_zero hfront.ne' (Nat.two_pow_pos _).ne'

/-- An offer has a position only on a shelf, at most P_max (R90). -/
theorem Sighting.offer_position (x : Sighting) (target : Loc) (pMax : Nat) {n : Nat}
    (h : (x.offer target pMax).position = some n) : target.isShelf = true ∧ n ≤ pMax := by
  change x.position target pMax = some n at h
  unfold Sighting.position at h
  split at h
  next hc =>
    cases h
    simp only [Bool.and_eq_true] at hc
    exact ⟨hc.1, Nat.min_le_right _ _⟩
  · cases h

/-- The offers of the commit are those of sightings, a part of the table in its order (R78). -/
theorem State.SightingsSound.handOff {s : State} (h : s.SightingsSound) (target : Loc) (mode : SweepMode)
    (bleed : Nat) (facts : SweepFacts) :
    State.SightingsSound { s with sweep := { s.sweep with
      phase := .commit
      inFlight := some (makeCommit s.sweep.record.number target mode bleed (s.table.pMax.getD 0) facts
        s.sweep.sightings) } } :=
  { h with
    offers := fun c hc => by
      cases hc
      refine ⟨?_, fun o ho => ?_⟩
      · have hmap : (makeCommit s.sweep.record.number target mode bleed (s.table.pMax.getD 0) facts
            s.sweep.sightings).offers.map (·.code) =
            (s.sweep.sightings.filter (fun x => !x.acrossAisle bleed)).map (·.code) := by
          simp [makeCommit, Sighting.offer, Function.comp_def]
        rw [hmap]
        exact h.codes.sublist (List.filter_sublist.map _)
      · obtain ⟨x, hx, rfl⟩ := List.mem_map.mp ho
        have hmem := (List.mem_filter.mp hx).1
        exact ⟨h.kinds x hmem, h.nonzero.2.1 x hmem, x.offer_strength _ _, fun n hn => x.offer_position _ _ hn⟩ }

/-! ## The commit (R98) -/

/-- The foreign list of a commit holds the codes it held and codes of offers. -/
theorem CountTable.applyOffers_foreign_code (t : CountTable) (c : Commit) :
    ∀ f ∈ (t.applyOffers c).foreign, f.code ∈ t.foreign.map (·.code) ∨ f.code ∈ c.offers.map (·.code) := by
  have hsub : (t.applyOffers c).foreign.map (·.code) ⊆ t.foreign.map (·.code) ++ c.offers.map (·.code) := by
    refine t.applyOffers_induction c
      (P := fun _ w => w.foreign.map (·.code) ⊆ t.foreign.map (·.code) ++ c.offers.map (·.code)) ?_ ?_
    · unfold CountTable.offersStart
      split
      · exact List.subset_append_of_subset_left _ (List.map_subset _ List.filter_sublist.subset)
      · exact List.subset_append_left _ _
    · intro done o rest w w' hoffers hw ha
      rcases ha.foreign_codes with hsame | ⟨-, -, hadd⟩
      · rw [hsame]
        exact hw
      · rw [hadd]
        refine List.append_subset.mpr ⟨hw, ?_⟩
        simp [hoffers]
  exact fun f hf => List.mem_append.mp (hsub (List.mem_map_of_mem hf))

theorem State.SightingsSound.committed {s : State} (h : s.SightingsSound) (hc : s.Controlled) {c : Commit}
    (hp : s.sweep.phase = .commit) (hflight : s.sweep.inFlight = some c) : (s.committed c).SightingsSound := by
  obtain ⟨hqueue, -, hforeign, hrecords⟩ := h.nonzero
  have hempty : s.port.queue = [] := hc.queueWhileFolding (by rw [hp]; rfl)
  refine State.sightingsSound_of_idle (by simp [SweepUnit.afterCommit]) (by simpa using hempty)
    (by simp [SweepUnit.afterCommit]) (fun f hf => ?_) (by simpa using hrecords)
  rw [State.committed_table, CountTable.commit_foreign] at hf
  rcases s.table.applyOffers_foreign_code c f hf with hmem | hmem
  · obtain ⟨x, hx, hxf⟩ := List.mem_map.mp hmem
    exact hxf ▸ hforeign x hx
  · obtain ⟨o, ho, hof⟩ := List.mem_map.mp hmem
    exact hof ▸ ((h.offers c hflight).2 o ho).2.1

/-! ## Every step -/

/-- A read that joins the queue carries the sweep's stamp (R51, R52). -/
theorem State.SightingsSound.read {s : State} (h : s.SightingsSound) {r : StampedRead} (h0 : r.code ≠ 0)
    (ht : s.sweep.record.target = some r.target) (hn : r.sweep = s.sweep.record.number) :
    State.SightingsSound { s with
      port := { s.port with queue := s.port.queue ++ [r] }
      evidence := { s.evidence with records := s.evidence.records ++ [r] } } := by
  obtain ⟨hqueue, hsight, hforeign, hrecords⟩ := h.nonzero
  have hjoin : ∀ xs : List StampedRead, (∀ x ∈ xs, x.code ≠ 0) → ∀ x ∈ xs ++ [r], x.code ≠ 0 := by
    intro xs hxs x hx
    rcases List.mem_append.mp hx with hx | hx
    · exact hxs x hx
    · rw [List.mem_singleton.mp hx]
      exact h0
  refine { h with
    nonzero := ⟨hjoin _ hqueue, hsight, hforeign, hjoin _ hrecords⟩
    stamps := fun x hx => ?_ }
  rcases List.mem_append.mp hx with hx | hx
  · exact h.stamps x hx
  · rw [List.mem_singleton.mp hx]
    exact ⟨ht, hn⟩

/-- Every change keeps reads, sightings and offers sound. -/
theorem Counts.sightingsSound {s t : State} (hc : s.Controlled) (h : s.SightingsSound)
    (hst : Counts s t) : t.SightingsSound := by
  obtain ⟨-, -, hforeign, hrecords⟩ := h.nonzero
  cases hst with
  | same => exact h
  | runBegin g hg hr =>
    obtain ⟨hx, hq, hi⟩ := hc.idle_empty (hc.noSweep (by simp [hr]))
    exact State.sightingsSound_of_idle hx hq hi hforeign hrecords
  | file shelf item st watch h0 hr =>
    obtain ⟨hx, hq, hi⟩ := hc.idle_empty (hc.noSweep (by simp [hr]))
    exact State.sightingsSound_of_idle hx hq hi hforeign hrecords
  | restand r f hf => exact h.withTable { entries := map_listed_of_map hf.listed _ } rfl
  | notice item st => exact h.withTable (s.table.notice_sameList _ _ _) rfl
  | discardRun =>
    refine State.sightingsSound_of_idle rfl rfl rfl (fun f hf => ?_) (fun r hr => by cases hr)
    simp only [State.discardRun_table, CountTable.discard] at hf
    split at hf
    · exact hforeign f hf
    · cases hf
  | openSweep target mode hr hp =>
    obtain ⟨-, hq, hi⟩ := hc.idle_empty hp
    refine State.sightingsSound_of_idle rfl hq hi ?_ hrecords
    simpa [State.openSweep] using hforeign
  | abandonSweep hp =>
    obtain ⟨target, -, ht⟩ := hc.abandonSweep_table hp
    have hi : s.sweep.inFlight = none := hc.noCommit (by rcases hp with hp | hp <;> simp [hp])
    refine State.sightingsSound_of_idle rfl rfl hi ?_ hrecords
    rw [ht, CountTable.abandon_foreign]
    exact hforeign
  | read r h0 ht hn => exact h.read h0 ht hn
  | refold k a => exact h.refold k a
  | sight r a hp hq hn => exact h.sight a hq hn
  | handOff target mode bleed facts => exact h.handOff target mode bleed facts
  | commit c hp hflight => exact h.committed hc hp hflight

/-- There is nothing to sight at power-on. -/
theorem State.powerOn_sightingsSound (strap : BaudRate) (switch : SwitchPosition) (pending : List Instr) :
    (State.powerOn strap switch pending).SightingsSound :=
  State.sightingsSound_of_idle rfl rfl rfl nofun nofun

/-- Settles O6: the list is kept by every change, the newcomers of a commit being of codes no entry holds. -/
theorem listIsKept : Obligations.ListIsKept := by
  intro s t hc hs hl h
  exact step_keeps_counted (H := fun s => s.ListSound ∧ s.SightingsSound) (G := State.ListSound)
    (fun hk ⟨hl, hs⟩ => ⟨hl.kept hk, hs.kept hk⟩) (fun hk hl => hl.kept hk) (fun _ hH => hH.1)
    State.powerOn_listSound (fun hc ⟨hl, hs⟩ hst => hst.listSound hc hl hs) hc ⟨hl, hs⟩ h

/-- Settles O7: the sightings are kept by every change, the lookup by code being that of the list. -/
theorem sightingsAreKept : Obligations.SightingsAreKept := by
  intro s t hc _ hs h
  exact step_keeps_counted (H := State.SightingsSound) (G := State.SightingsSound)
    (fun hk hs => hs.kept hk) (fun hk hs => hs.kept hk) (fun _ hs => hs) State.powerOn_sightingsSound
    (fun hc hs hst => hst.sightingsSound hc hs) hc hs h

end Sys2Proof.Machine
end

section
/-! SUPPORT. The three count marks are held as their rules allow after every step. -/

namespace Sys2Proof.Machine

/-! ## The returned window (R120) -/

/-- A sweep claims its target in OPEN, in FINALIZE and in COMMIT (R12). -/
theorem SweepPhase.claims_iff {p : SweepPhase} :
    p.claims = true ↔ p = .opened ∨ p = .finalize ∨ p = .commit := by
  cases p <;> simp [SweepPhase.claims]

/-- The returned window of a shelf is open while a sweep claims it. -/
theorem SweepUnit.windowOpen_iff_claims {u : SweepUnit} {t : Nat} :
    u.windowOpen t = true ↔ u.phase.claims = true ∧ u.record.target = some (.shelf t) := by
  rw [SweepPhase.claims_iff]
  simp [SweepUnit.windowOpen, or_assoc]

/-! ## The marks entry by entry -/

/-- The marks of one entry are as the sweep and the run allow. -/
structure Entry.MarksSound (u : SweepUnit) (run : RunState) (e : Entry) : Prop where
  placedClear    : e.placement.isSome = true → e.returned = .clear
  duringWindow   : e.returned = .setDuring → u.windowOpen e.shelf = true
  inSweepClaimed : e.inSweep = true → u.phase.claims = true ∧ e.rank ∈ u.claimedRanks
  lentStatus     : e.lentSince = true → e.status ≠ .available
  loadingClear   : run = .loading → e.inSweep = false ∧ e.lentSince = false ∧ e.returned = .clear

theorem State.marksSound_iff {s : State} :
    s.MarksSound ↔ ∀ e ∈ s.table.entries, e.MarksSound s.sweep s.table.run := by
  constructor
  · exact fun h e he => ⟨h.placedClear e he, h.duringWindow e he, h.inSweepClaimed e he, h.lentStatus e he,
      fun hr => h.loadingClear hr e he⟩
  · exact fun h => ⟨fun e he => (h e he).placedClear, fun e he => (h e he).duringWindow,
      fun e he => (h e he).inSweepClaimed, fun e he => (h e he).lentStatus,
      fun hr e he => (h e he).loadingClear hr⟩

section
variable {u u' : SweepUnit} {run run' : RunState} {e : Entry}

/-- The marks stay sound in a sweep of the same claim that claims every rank it claimed. -/
theorem Entry.MarksSound.carried (h : e.MarksSound u run) (hp : u'.phase.claims = u.phase.claims)
    (ht : u'.record.target = u.record.target) (hr : u.claimedRanks ⊆ u'.claimedRanks)
    (hrun : run' = .loading → run = .loading) : e.MarksSound u' run' where
  placedClear := h.placedClear
  duringWindow hd := by
    rw [SweepUnit.windowOpen_iff_claims, hp, ht, ← SweepUnit.windowOpen_iff_claims]
    exact h.duringWindow hd
  inSweepClaimed hi := ⟨hp.trans (h.inSweepClaimed hi).1, hr (h.inSweepClaimed hi).2⟩
  lentStatus := h.lentStatus
  loadingClear hl := h.loadingClear (hrun hl)

/-- An entry without the marks that a sweep gives it is sound whatever the sweep, outside LOADING. -/
theorem Entry.marksSound_of_unswept (hplaced : e.placement.isSome = true → e.returned = .clear)
    (hreturned : e.returned ≠ .setDuring) (hsweep : e.inSweep = false)
    (hlent : e.lentSince = true → e.status ≠ .available) (hrun : run ≠ .loading) : e.MarksSound u run where
  placedClear := hplaced
  duringWindow hd := absurd hd hreturned
  inSweepClaimed hi := by simp [hsweep] at hi
  lentStatus := hlent
  loadingClear hl := absurd hl hrun

/-- Without a claim no entry holds a mark that a sweep gives it. -/
theorem Entry.MarksSound.unswept (h : e.MarksSound u run) (hp : u.phase.claims = false) :
    e.returned ≠ .setDuring ∧ e.inSweep = false := by
  refine ⟨fun hd => ?_, Bool.eq_false_iff.mpr (fun hi => ?_)⟩
  · simpa [hp] using (SweepUnit.windowOpen_iff_claims.mp (h.duringWindow hd)).1
  · simpa [hp] using (h.inSweepClaimed hi).1

/-- A SET_DURING entry is expected on the target of the sweep, which is a shelf (R120). -/
theorem Entry.MarksSound.expectedAt_target (h : e.MarksSound u run) (hd : e.returned = .setDuring)
    {target : Loc} (ht : u.record.target = some target) : e.expectedAt target = true := by
  have hshelf := (SweepUnit.windowOpen_iff_claims.mp (h.duringWindow hd)).2
  rw [ht] at hshelf
  cases hshelf
  simp [Entry.expectedAt]

/-- The mark step of a new status keeps to the rules (R118 to R121); in LOADING the status alone is set (R31). -/
theorem Entry.MarksSound.notice (h : e.MarksSound u run) (n : Nat) (st : CircStatus) :
    (e.notice run (u.windowOpen e.shelf) n st).MarksSound u run := by
  unfold Entry.notice
  split
  next hr =>
    obtain ⟨-, hlent, -⟩ := h.loadingClear hr
    exact { h with lentStatus := fun hl => by simp [hlent] at hl }
  next hr =>
    split
    · exact h
    cases st with
    | onLoan => exact { h with lentStatus := nofun, loadingClear := fun hl => absurd hl hr }
    | inTransit => exact { h with lentStatus := nofun, loadingClear := fun hl => absurd hl hr }
    | declaredMissing => exact { h with lentStatus := nofun }
    | available =>
      exact { h with
        placedClear := fun hp => by
          have hsome : e.placement.isSome = true := hp
          simp only [Entry.markStep, hsome, if_true]
          exact h.placedClear hsome
        duringWindow := fun hd => by
          simp only [Entry.markStep, returnedMark] at hd
          split_ifs at hd with hp hw
          · exact h.duringWindow hd
          · exact hw
          · exact h.duringWindow hd
        lentStatus := nofun
        loadingClear := fun hl => absurd hl hr }

/-- A placement clears RETURNED_SINCE (R96). -/
theorem Entry.MarksSound.accept (h : e.MarksSound u run) (p : Placement) : (e.accept p).MarksSound u run :=
  { h with
    placedClear := fun _ => rfl
    duringWindow := nofun
    loadingClear := fun hl => ⟨(h.loadingClear hl).1, (h.loadingClear hl).2.1, rfl⟩ }

/-- The recount vacate takes LENT_SINCE with the placement (R94). -/
theorem Entry.MarksSound.vacate (h : e.MarksSound u run) (l : Loc) : (e.vacate l).MarksSound u run := by
  unfold Entry.vacate
  split
  · exact { h with
      placedClear := nofun
      lentStatus := nofun
      loadingClear := fun hl => ⟨(h.loadingClear hl).1, rfl, (h.loadingClear hl).2.2⟩ }
  · exact h

/-- Standings are no marks. -/
theorem Entry.MarksSound.restand (h : e.MarksSound u run) {f : Entry → Entry} (hf : RestandsOnly f)
    (hrun : run' ≠ .loading) : (f e).MarksSound u run' := by
  rw [hf e]
  exact { h with loadingClear := fun hl => absurd hl hrun }

/-! ## The end of a sweep (R81, R99, R100) -/

theorem Entry.clearInSweep_eq (ranks : List Nat) (e : Entry) :
    e.clearInSweep ranks = { e with inSweep := if e.rank ∈ ranks then false else e.inSweep } := by
  unfold Entry.clearInSweep
  split <;> rfl

theorem Entry.settleReturned_eq (l : Loc) (e : Entry) :
    e.settleReturned l =
      { e with returned := if e.expectedAt l && e.returned == .setDuring then .set else e.returned } := by
  unfold Entry.settleReturned
  split <;> rfl

theorem Entry.convertReturned_eq (l : Loc) (e : Entry) :
    e.convertReturned l =
      { e with returned := if e.expectedAt l && e.placement.isNone then e.returned.convert else e.returned } := by
  unfold Entry.convertReturned
  split <;> rfl

theorem Entry.settleStanding_eq (affected : List Loc) (reached : List Nat) (e : Entry) :
    e.settleStanding affected reached =
      { e with shelfStanding := (e.settleStanding affected reached).shelfStanding } := by
  unfold Entry.settleStanding
  split_ifs <;> rfl

/-- An abandonment leaves no mark that the sweep gave (R81). -/
theorem Entry.MarksSound.abandoned (h : e.MarksSound u run) {target : Loc} {ranks : List Nat}
    (ht : u.record.target = some target) (hr : u.claimedRanks = ranks) (hrun : run' ≠ .loading) :
    (Entry.settleReturned target (e.clearInSweep ranks)).MarksSound u' run' := by
  have hexpected : ({ e with inSweep := if e.rank ∈ ranks then false else e.inSweep } : Entry).expectedAt target =
      e.expectedAt target := rfl
  rw [Entry.settleReturned_eq, Entry.clearInSweep_eq, hexpected]
  refine Entry.marksSound_of_unswept (fun hp => ?_) (fun hd => ?_) ?_ h.lentStatus hrun
  · have hclear := h.placedClear hp
    simp [hclear]
  · dsimp only at hd
    split at hd
    · cases hd
    next hn => exact hn (by simp [h.expectedAt_target hd ht, hd])
  · dsimp only
    split
    · rfl
    next hn => exact Bool.eq_false_iff.mpr (fun hi => hn (hr ▸ (h.inSweepClaimed hi).2))

/-- The marks of an entry that a commit settles (R99, R100). -/
theorem Entry.settle_marks (c : Commit) (w : CommitWork) (e : Entry) :
    (e.settle c w).inSweep = (if e.rank ∈ c.ranks then false else e.inSweep) ∧
    (e.settle c w).returned =
      (if e.expectedAt c.target && e.placement.isNone then e.returned.convert else e.returned) ∧
    (e.settle c w).lentSince = e.lentSince ∧ (e.settle c w).status = e.status := by
  unfold Entry.settle
  rw [Entry.convertReturned_eq, Entry.clearInSweep_eq, Entry.settleStanding_eq]
  exact ⟨rfl, rfl, rfl, rfl⟩

/-- A commit leaves no mark that its sweep gave: SET_DURING is converted on the target, and every listed
sighting's IN_SWEEP is cleared (R99, R100). -/
theorem Entry.MarksSound.settled (h : e.MarksSound u run) {c : Commit} (w : CommitWork)
    (ht : u.record.target = some c.target) (hc : u.inFlight = some c) (hrun : run' ≠ .loading) :
    (e.settle c w).MarksSound u' run' := by
  obtain ⟨hsweep, hreturned, hlent, hstatus⟩ := e.settle_marks c w
  have hranks : u.claimedRanks = c.ranks := by simp [SweepUnit.claimedRanks, hc]
  refine Entry.marksSound_of_unswept (fun hp => ?_) (fun hd => ?_) ?_ (by rw [hlent, hstatus]; exact h.lentStatus)
    hrun
  · rw [Entry.settle_placement] at hp
    have hsome : e.placement.isNone = false := by simpa using hp
    rw [hreturned, hsome, Bool.and_false, if_neg Bool.false_ne_true]
    exact h.placedClear hp
  · rw [hreturned] at hd
    split at hd
    · revert hd
      cases e.returned <;> simp [Returned.convert]
    next hn =>
      have hnone : e.placement.isNone = true := by
        cases hp : e.placement with
        | none => rfl
        | some p => simp [h.placedClear (by simp [hp])] at hd
      exact hn (by rw [h.expectedAt_target hd ht, hnone]; rfl)
  · rw [hsweep]
    split
    · rfl
    next hn => exact Bool.eq_false_iff.mpr (fun hi => hn (hranks ▸ (h.inSweepClaimed hi).2))

/-- The offers of a commit keep the marks sound (R94, R96). -/
theorem CountTable.applyOffers_marks {t : CountTable} (c : Commit)
    (h : ∀ e ∈ t.entries, e.MarksSound u run) : ∀ e ∈ (t.applyOffers c).entries, e.MarksSound u run := by
  refine t.applyOffers_induction c (P := fun _ w => ∀ e ∈ w.entries, e.MarksSound u run) ?_ ?_
  · unfold CountTable.offersStart
    split
    · exact List.forall_mem_map.mpr (fun e he => (h e he).vacate c.target)
    · exact h
  · intro done o rest w w' _ hw ha
    cases ha
    case placedListed =>
      refine List.forall_mem_map.mpr (fun e he => ?_)
      split
      · exact (hw e he).accept _
      · exact hw e he
    all_goals exact hw

end

/-! ## The ranks that a sweep claims -/

theorem mem_listedRanks {xs : List Sighting} {r : Nat} :
    r ∈ listedRanks xs ↔ ∃ x ∈ xs, x.kind = .listed r := by
  unfold listedRanks
  rw [List.mem_filterMap]
  refine exists_congr (fun x => and_congr_right (fun _ => ?_))
  cases x.kind <;> simp

/-- A fold claims the ranks claimed before it. -/
theorem listedRanks_foldInto (k : ItemCode) (a : Additions) (xs : List Sighting) :
    listedRanks (foldInto k a xs) = listedRanks xs := by
  unfold listedRanks foldInto
  rw [List.filterMap_map]
  refine List.filterMap_congr (fun x _ => ?_)
  have hkind : (if x.code == k then x.fold a else x).kind = x.kind := by
    split
    · exact x.fold_kind a
    · rfl
  simp only [Function.comp_apply, hkind]

theorem SweepUnit.claimedRanks_of_noCommit {u : SweepUnit} (h : u.inFlight = none) :
    u.claimedRanks = listedRanks u.sightings := by
  simp [SweepUnit.claimedRanks, h]

/-! ## Every step -/

theorem State.MarksSound.kept {s t : State} (hk : s.CountKept t) (h : s.MarksSound) : t.MarksSound := by
  rw [State.marksSound_iff] at *
  rw [hk.table.entries, hk.table.run]
  refine fun e he => (h e he).carried hk.sweep.claims hk.sweep.target (fun r hr => ?_) id
  simpa only [SweepUnit.claimedRanks, hk.sweep.inFlight, hk.sweep.sightings] using hr

theorem State.marksSound_of_noEntries {s : State} (h : s.table.entries = []) : s.MarksSound := by
  rw [State.marksSound_iff, h]
  exact fun e he => absurd he List.not_mem_nil

/-- The marks of a table whose entries have been changed one by one. -/
theorem State.marksSound_of_map {t : State} {f : Entry → Entry} {es : List Entry}
    (he : t.table.entries = es.map f) (h : ∀ e ∈ es, (f e).MarksSound t.sweep t.table.run) : t.MarksSound := by
  rw [State.marksSound_iff, he]
  exact List.forall_mem_map.mpr h

/-- A new sighting claims the rank of the entry of its code, which is the entry marked (R71). -/
theorem State.MarksSound.sight {s : State} (h : s.MarksSound) (hc : s.Controlled) (hl : s.ListSound)
    (r : StampedRead) (a : Additions) (hp : s.sweep.phase.folds = true) :
    State.MarksSound { s with
      sweep := { s.sweep with
        sightings := s.sweep.sightings ++ [(newSighting r.code (s.table.kindOf r.code)).fold a] }
      table := s.table.markSighted r.code } := by
  have hphase : s.sweep.phase = .opened ∨ s.sweep.phase = .finalize := by
    revert hp
    cases s.sweep.phase <;> simp [SweepPhase.folds]
  have hclaims : s.sweep.phase.claims = true :=
    SweepPhase.claims_iff.mpr (hphase.imp_right .inl)
  have hflight : s.sweep.inFlight = none := hc.noCommit (by rcases hphase with e | e <;> simp [e])
  have hrun : s.table.run = .opened := (hc.sweepInOpenRun (by rcases hphase with e | e <;> simp [e])).1
  have hranks : ∀ q, q ∈ s.sweep.claimedRanks ∨ s.table.kindOf r.code = .listed q →
      q ∈ SweepUnit.claimedRanks { s.sweep with
        sightings := s.sweep.sightings ++ [(newSighting r.code (s.table.kindOf r.code)).fold a] } := by
    intro q hq
    rw [SweepUnit.claimedRanks_of_noCommit hflight, mem_listedRanks] at hq
    rw [SweepUnit.claimedRanks_of_noCommit (u := { s.sweep with
      sightings := s.sweep.sightings ++ [(newSighting r.code (s.table.kindOf r.code)).fold a] }) hflight,
      mem_listedRanks]
    rcases hq with ⟨x, hx, hk⟩ | hk
    · exact ⟨x, List.mem_append_left _ hx, hk⟩
    · exact ⟨_, List.mem_append_right _ (List.mem_singleton_self _), by rw [Sighting.fold_kind]; exact hk⟩
  refine State.marksSound_of_map (es := s.table.entries) rfl (fun e he => ?_)
  have hcarried := ((State.marksSound_iff.mp h) e he).carried
    (u' := { s.sweep with
      sightings := s.sweep.sightings ++ [(newSighting r.code (s.table.kindOf r.code)).fold a] })
    rfl rfl (fun q hq => hranks q (.inl hq)) id
  split
  next hcode =>
    have hkind : s.table.kindOf r.code = .listed e.rank := by
      rw [← (by simpa using hcode : e.code = r.code)]
      exact CountTable.kindOf_of_mem (List.nodup_append.mp hl.codes).1 he
    exact { hcarried with
      inSweepClaimed := fun _ => ⟨hclaims, hranks _ (.inr hkind)⟩
      loadingClear := fun hload => by simp [CountTable.markSighted, hrun] at hload }
  · exact hcarried

/-- Every change keeps the marks sound. -/
theorem Counts.marksSound {s t : State} (hc : s.Controlled) (hl : s.ListSound) (h : s.MarksSound)
    (hst : Counts s t) : t.MarksSound := by
  have hmarks := State.marksSound_iff.mp h
  cases hst with
  | same => exact h
  | runBegin g hg hr => exact State.marksSound_of_noEntries (hl.emptyRun hr).1
  | file shelf item st watch h0 hr =>
    refine State.marksSound_iff.mpr (fun e he => ?_)
    rcases List.mem_append.mp he with he | he
    · exact (hmarks e he).carried rfl rfl (List.Subset.refl _) (fun _ => hr)
    · rw [List.mem_singleton.mp he]
      exact ⟨nofun, nofun, nofun, nofun, fun _ => ⟨rfl, rfl, rfl⟩⟩
  | restand r f hf hv hr =>
    refine State.marksSound_of_map (es := s.table.entries) rfl (fun e he => (hmarks e he).restand hf ?_)
    rintro rfl
    cases hr
  | notice item st =>
    refine State.marksSound_of_map (es := s.table.entries) rfl (fun e he => ?_)
    split
    · exact (hmarks e he).notice _ _
    · exact hmarks e he
  | discardRun =>
    refine State.marksSound_of_noEntries ?_
    by_cases hr : s.table.run = .empty
    · simp [CountTable.discard, hr, (hl.emptyRun hr).1]
    · simp [CountTable.discard, hr, CountTable.cleared]
  | openSweep target mode hr hp =>
    refine State.marksSound_iff.mpr (fun e he => ?_)
    have hmem : e ∈ s.table.entries := by simpa [State.openSweep] using he
    obtain ⟨hreturned, hsweep⟩ := (hmarks e hmem).unswept (by rw [hp]; rfl)
    exact Entry.marksSound_of_unswept (hmarks e hmem).placedClear hreturned hsweep (hmarks e hmem).lentStatus
      (by simp [State.openSweep, hr])
  | abandonSweep hp =>
    obtain ⟨target, ht, htable⟩ := hc.abandonSweep_table hp
    have hflight : s.sweep.inFlight = none := hc.noCommit (by rcases hp with e | e <;> simp [e])
    have hrun : s.table.run = .opened := (hc.sweepInOpenRun (by rcases hp with e | e <;> simp [e])).1
    refine State.marksSound_of_map (by rw [htable, CountTable.abandon_entries]) (fun e he => ?_)
    exact (hmarks e he).abandoned ht (SweepUnit.claimedRanks_of_noCommit hflight) (by simp [hrun])
  | read => exact State.marksSound_iff.mpr hmarks
  | refold k a =>
    refine State.marksSound_iff.mpr (fun e he => (hmarks e he).carried rfl rfl (fun r hr => ?_) id)
    simpa only [SweepUnit.claimedRanks, listedRanks_foldInto] using hr
  | sight r a hp hq hn => exact h.sight hc hl r a hp
  | handOff target mode bleed facts hp =>
    have hflight : s.sweep.inFlight = none := hc.noCommit (by simp [hp])
    refine State.marksSound_iff.mpr (fun e he => (hmarks e he).carried (by rw [hp]; rfl) rfl (fun r hr => ?_) id)
    rwa [SweepUnit.claimedRanks_of_noCommit hflight] at hr
  | commit c hp hflight =>
    have hrun : s.table.run = .opened := (hc.sweepInOpenRun (by simp [hp])).1
    have ht : s.sweep.record.target = some c.target := (hc.commitInFlight.2 c hflight).1
    refine State.marksSound_of_map (by rw [State.committed_table, CountTable.commit_entries]) (fun e he => ?_)
    exact (s.table.applyOffers_marks c hmarks e he).settled _ ht hflight
      (by rw [State.committed_table, CountTable.commit_run, hrun]; simp)

/-- Settles O8: the marks are kept by every change, entry by entry. -/
theorem marksAreKept : Obligations.MarksAreKept := by
  intro s t hc hl _ hm h
  exact step_keeps_counted (H := fun s => s.ListSound ∧ s.MarksSound) (G := State.MarksSound)
    (fun hk ⟨hl, hm⟩ => ⟨hl.kept hk, hm.kept hk⟩) (fun hk hm => hm.kept hk) (fun _ hH => hH.2)
    (fun _ _ _ => State.marksSound_of_noEntries rfl) (fun hc ⟨hl, hm⟩ hst => hst.marksSound hc hl hm) hc
    ⟨hl, hm⟩ h

end Sys2Proof.Machine
end

section
/-! SUPPORT. The requests of the expected list: the list item and its filing, the circulation notice, and the
queries of an entry and of a location. -/

namespace Sys2Proof.Machine

/-! ## Status codes (R16) -/

theorem statusOfCode_eq_none : ∀ {n : Nat}, statusOfCode n = none ↔ ¬ n ≤ 3
  | 0 | 1 | 2 | 3 => by simp [statusOfCode]
  | _ + 4 => by simp [statusOfCode]

theorem CircStatus.code_of_statusOfCode {n : Nat} {st : CircStatus} (h : statusOfCode n = some st) :
    st.code = n := by
  unfold statusOfCode at h
  split at h <;> cases h <;> rfl

/-- A code of at most 3 names a status. -/
theorem exists_statusOfCode {n : Nat} (h : n ≤ 3) : ∃ st, statusOfCode n = some st :=
  Option.ne_none_iff_exists'.mp (statusOfCode_eq_none.not.mpr (not_not.mpr h))

/-! ## LI (R21 to R23) -/

/-- The fields of a list item are in their forms: an item code, a status and a watch flag (R21). -/
def ListItemForm (code status watch : Nat) : Prop :=
  BitVec.ofNat 64 code ≠ 0 ∧ status ≤ 3 ∧ watch ≤ 1

section
variable {rank code shelf status watch : Nat} {u : State}

theorem decideListItem_malformed (h : ¬ ListItemForm code status watch) :
    decideListItem rank code shelf status watch u = .refuse .RG [] := by
  unfold decideListItem
  dsimp only
  split
  · rfl
  next hst =>
    have hle : status ≤ 3 := by
      by_contra hn
      simp [statusOfCode_eq_none.mpr hn] at hst
    refine if_pos ?_
    by_contra hn
    push Not at hn
    exact h ⟨hn.1, hle, hn.2⟩

theorem ListItemForm.passes (h : ListItemForm code status watch) :
    ¬ (BitVec.ofNat 64 code = 0 ∨ 1 < watch) := by
  rintro (h0 | hw)
  · exact h.1 h0
  · exact Nat.not_lt.mpr h.2.2 hw

/-- Past the form checks LI is refused by the run, the shelf and the rank, in this order (R21). -/
theorem decideListItem_early {st : CircStatus} (h : ListItemForm code status watch)
    (hst : statusOfCode status = some st) :
    (u.table.run ≠ .loading →
      decideListItem rank code shelf status watch u = .refuse .SA [.num u.table.run.code]) ∧
    (u.table.run = .loading → u.table.isShelf shelf = false →
      decideListItem rank code shelf status watch u = .refuse .RG [.num u.table.shelfCount]) ∧
    (u.table.run = .loading → u.table.isShelf shelf = true → rank ≠ u.table.load.nextRank →
      decideListItem rank code shelf status watch u = .refuse .SQ [.num u.table.load.nextRank]) := by
  refine ⟨fun hr => ?_, fun hr ht => ?_, fun hr ht hk => ?_⟩
  · simp only [decideListItem, hst, if_neg h.passes, if_pos hr]
  · simp only [decideListItem, hst, if_neg h.passes, hr, ht, ne_eq, not_true_eq_false, if_false, Bool.not_false,
      if_true]
  · simp only [decideListItem, hst, if_neg h.passes, hr, ht, ne_eq, not_true_eq_false, if_false, Bool.not_true,
      Bool.false_eq_true, hk, not_false_eq_true, if_true]

/-- With the run in LOADING, a shelf of the run and the next rank, LI is decided by the code and the shelf
order. -/
theorem decideListItem_inOrder {st : CircStatus} (h : ListItemForm code status watch)
    (hst : statusOfCode status = some st) (hr : u.table.run = .loading) (ht : u.table.isShelf shelf = true)
    (hk : rank = u.table.load.nextRank) :
    (∀ held, u.table.byCode (BitVec.ofNat 64 code) = some held →
      decideListItem rank code shelf status watch u = .refuse .DP [.num held.rank]) ∧
    (u.table.byCode (BitVec.ofNat 64 code) = none →
      (∀ p, u.table.load.prevShelf = some p → shelf < p →
        decideListItem rank code shelf status watch u = .refuse .OR [.num p]) ∧
      ((∀ p, u.table.load.prevShelf = some p → p ≤ shelf) → ∀ g, u.table.geometry = some g →
        decideListItem rank code shelf status watch u =
          .accept
            { u with
              table := u.table.file g.items
                (fileEntry rank (BitVec.ofNat 64 code) shelf st (watch == 1)) }
            [.num rank, .num (if rank = g.items then 0 else rank + 1)])) := by
  simp only [decideListItem, hst, if_neg h.passes, hr, ht, hk, ne_eq, not_true_eq_false, if_false, Bool.not_true,
    Bool.false_eq_true]
  refine ⟨fun held hc => by rw [hc], fun hc => ?_⟩
  rw [hc]
  refine ⟨fun p hp hlt => ?_, fun hle g hg => ?_⟩
  · simp only [hp, Option.getD_some, if_pos hlt]
    rfl
  · have hnot : ¬ shelf < u.table.load.prevShelf.getD 0 := by
      cases hp : u.table.load.prevShelf with
      | none => simp
      | some p => simpa using hle p hp
    simp only [if_neg hnot, hg, Option.map_some, Option.getD_some]
    rfl

end

section
variable {s : State} {rank code shelf status watch : Nat} {d : Terminator}

/-- The completion of a filing answers its list item (R23). -/
theorem filing_completes (hf : s.link.filing = true)
    (hs : s.link.slot = some { req := .li rank code shelf status watch, disp := d }) :
    exec .listItemFilingCompletion s =
      finish (answer .LI d s.endFiling (decideListItem rank code shelf status watch s.endFiling)) := by
  change execListItemFilingCompletion s = _
  unfold execListItemFilingCompletion
  rw [if_pos hf, hs]

theorem filing_refused (hf : s.link.filing = true)
    (hs : s.link.slot = some { req := .li rank code shelf status watch, disp := d }) {x : StatusCode}
    {fields : List Field} (hd : decideListItem rank code shelf status watch s.endFiling = .refuse x fields) :
    exec .listItemFilingCompletion s =
      .next (State.replied { s with link := { s.link with filing := false } } .LI x fields) := by
  rw [filing_completes hf hs, hd]
  exact congrArg Host.Outcome.next (State.pump_freed _ rfl)

theorem filing_accepted (hf : s.link.filing = true)
    (hs : s.link.slot = some { req := .li rank code shelf status watch, disp := d }) {c : CountTable}
    {fields : List Field}
    (hd : decideListItem rank code shelf status watch s.endFiling =
      .accept { s.endFiling with table := c } fields) :
    exec .listItemFilingCompletion s =
      .next (State.accepted { s with link := { s.link with filing := false } }
        { s with link := { s.link with filing := false }, table := c } .LI d fields) := by
  rw [filing_completes hf hs, hd]
  cases d <;> exact congrArg Host.Outcome.next (State.pump_freed _ rfl)

end

/-- Settles O31: the taking holds the slot, and the completion goes through LI's checks in their order. -/
theorem listItemIsFiled : Obligations.ListItemIsFiled := by
  intro s rank code shelf status watch d
  refine ⟨fun h => ?_, fun hf hs => ?_⟩
  · change execListItem s = _
    unfold execListItem
    rw [State.takeable_of_canTake h]
    rfl
  intro item c t form onShelf
  have hst : form → ∃ st, statusOfCode status = some st := fun h => exists_statusOfCode h.2.1
  refine ⟨fun h => ?_, fun h hr => ?_, fun h hr ht => ?_, fun h hr ht hk => ?_, fun h hr ht hk => ⟨?_, fun hc =>
    ⟨?_, ?_⟩⟩⟩
  · exact filing_refused hf hs (decideListItem_malformed h)
  · obtain ⟨st, hst⟩ := hst h
    exact filing_refused hf hs ((decideListItem_early (u := s.endFiling) h hst).1 hr)
  · obtain ⟨st, hst⟩ := hst h
    have hno : s.table.isShelf shelf = false := Bool.eq_false_iff.mpr (CountTable.isShelf_iff.not.mpr ht)
    exact filing_refused hf hs ((decideListItem_early (u := s.endFiling) h hst).2.1 hr hno)
  · obtain ⟨st, hst⟩ := hst h
    exact filing_refused hf hs
      ((decideListItem_early (u := s.endFiling) h hst).2.2 hr (CountTable.isShelf_iff.mpr ht) hk)
  · intro e he
    obtain ⟨st, hst⟩ := hst h
    exact filing_refused hf hs
      ((decideListItem_inOrder (u := s.endFiling) h hst hr (CountTable.isShelf_iff.mpr ht) hk).1 e he)
  · intro p hp hlt
    obtain ⟨st, hst⟩ := hst h
    exact filing_refused hf hs
      (((decideListItem_inOrder (u := s.endFiling) h hst hr (CountTable.isShelf_iff.mpr ht) hk).2 hc).1 p hp hlt)
  · intro hp g st hg hst last next entry filed
    have htable : s.table.file g.items (fileEntry rank item shelf st (watch == 1)) = filed := by
      have hrun : s.table.run = .loading := hr
      simp only [CountTable.file, LoadRecord.advance, fileEntry, hrun, beq_eq_decide]
      rfl
    rw [← htable]
    exact filing_accepted hf hs
      (((decideListItem_inOrder (u := s.endFiling) h hst hr (CountTable.isShelf_iff.mpr ht) hk).2 hc).2 hp g hg)

/-! ## CN (R30, R31, R118 to R121) -/

/-- CN: its checks in order, and the notice it makes of an entry found. -/
theorem execCirculationNotice_cases {s : State} {code status : Nat} {d : Terminator}
    (h : CanTake s (.cn code status) d) :
    (¬ (BitVec.ofNat 64 code ≠ 0 ∧ status ≤ 3) →
      execCirculationNotice s = .next (s.replied .CN .RG [])) ∧
    (BitVec.ofNat 64 code ≠ 0 → ∀ st, statusOfCode status = some st →
      (s.table.run = .empty → execCirculationNotice s = .next (s.replied .CN .SA [])) ∧
      (s.table.run ≠ .empty → s.table.byCode (BitVec.ofNat 64 code) = none →
        execCirculationNotice s = .next (s.replied .CN .NF [])) ∧
      (s.table.run ≠ .empty → ∀ e, s.table.byCode (BitVec.ofNat 64 code) = some e →
        execCirculationNotice s = .next (s.accepted
          { s with table := s.table.notice s.sweep (BitVec.ofNat 64 code) st } .CN d
          [.num e.rank, .num status]))) := by
  unfold execCirculationNotice
  refine ⟨fun hform => takeRequest_refused h ?_, fun h0 st hst => ⟨fun hr => takeRequest_refused h ?_,
    fun hr hc => takeRequest_refused h ?_, fun hr e hc => takeRequest_effective h ?_⟩⟩
  · by_cases hle : status ≤ 3
    · have hzero : BitVec.ofNat 64 code = 0 := by
        by_contra h0
        exact hform ⟨h0, hle⟩
      obtain ⟨st, hst⟩ := exists_statusOfCode hle
      simp only [decideCirculationNotice, hst, if_pos hzero]
    · simp only [decideCirculationNotice, statusOfCode_eq_none.mpr hle]
  · simp only [decideCirculationNotice, hst, if_neg h0, State.freeSlot_table, hr, if_true]
  · simp only [decideCirculationNotice, hst, if_neg h0, State.freeSlot_table, if_neg hr, hc]
  · simp only [decideCirculationNotice, hst, if_neg h0, State.freeSlot_table, if_neg hr, hc,
      CircStatus.code_of_statusOfCode hst]
    rfl

/-- The returned window of a shelf, by phase and target (R120). -/
theorem SweepUnit.windowOpen_iff {u : SweepUnit} {t : Nat} :
    u.windowOpen t = true ↔
      (u.phase = .opened ∨ u.phase = .finalize ∨ u.phase = .commit) ∧
        u.record.target = some (.shelf t) := by
  rw [SweepUnit.windowOpen_iff_claims, SweepPhase.claims_iff]

/-- Settles O35: CN's checks in their order, and the mark step entry by entry. -/
theorem circulationNotice : Obligations.CirculationNotice := by
  refine ⟨fun u t => SweepUnit.windowOpen_iff, fun s code status d h => ?_⟩
  obtain ⟨hRG, hrest⟩ := execCirculationNotice_cases h
  intro item form
  have hst : form → ∃ st, statusOfCode status = some st := fun hf => exists_statusOfCode hf.2
  refine ⟨hRG, fun hf hr => ?_, fun hf hr hc => ?_, fun e st hf hr hc hstatus => ?_⟩
  · obtain ⟨st, hst⟩ := hst hf
    exact (hrest hf.1 st hst).1 hr
  · obtain ⟨st, hst⟩ := hst hf
    exact (hrest hf.1 st hst).2.1 hr hc
  · intro noticed entries
    have hnotice : ∀ x : Entry,
        x.notice s.table.run (s.sweep.windowOpen x.shelf) (s.table.sweepCount x.shelf) st = noticed x := by
      intro x
      simp only [noticed, ← SweepUnit.windowOpen_iff, Entry.notice]
      refine if_congr Iff.rfl rfl (if_congr Iff.rfl rfl ?_)
      cases st with
      | onLoan | inTransit | declaredMissing => rfl
      | available =>
        cases hp : x.placement <;> simp [Entry.markStep, returnedMark]
    have htable : s.table.notice s.sweep item st = { s.table with entries := entries } := by
      simp only [CountTable.notice, hnotice, beq_iff_eq]
      rfl
    rw [← htable]
    exact (hrest hf.1 st hstatus).2.2 hr e hc

/-! ## QE and QH (R28, R29, R47, R48) -/

/-- The fields of QE's reply in a row (R29). -/
theorem CountTable.entryFields_eq (c : CountTable) (e : Entry) :
    c.entryFields e =
      [Field.num e.rank, .code e.code, .num e.shelf, .num e.status.code, .flag e.watch] ++
      (match e.placement with
        | some p => [Field.loc p.loc, .opt p.position, .num p.strength, .num p.sweep, .num p.reads]
        | none => [Field.absent, .absent, .absent, .absent, .absent]) ++
      [Field.num e.shelfStanding.code, .num e.runStanding.code, .flag e.inSweep, .flag e.lentSince,
        .num e.returned.code, .opt ((c.verdict e).map Verdict.code), .flag e.conflict, .flag e.recovered] := by
  unfold CountTable.entryFields
  cases e.placement <;> rfl

/-- QE by rank: its checks in order and the lookup by rank (R28). -/
theorem execEntryQuery_byRank {s : State} {key : Nat} {d : Terminator} (h : CanTake s (.qe 82 key) d) :
    (s.table.run = .empty → execEntryQuery s = .next (s.replied .QE .SA [])) ∧
    (s.table.run ≠ .empty → ∀ n, s.table.items = some n →
      (key = 0 ∨ n < key → execEntryQuery s = .next (s.replied .QE .RG [])) ∧
      (1 ≤ key → key ≤ n →
        (∀ e, s.table.entries[key - 1]? = some e →
          execEntryQuery s = .next (s.accepted s .QE d (s.table.entryFields e))) ∧
        (s.table.entries[key - 1]? = none → execEntryQuery s = .next (s.replied .QE .NF [])))) := by
  unfold execEntryQuery
  have hselector : (82 : Nat) = (asc 'R').toNat := by decide
  refine ⟨fun hr => takeRequest_refused h ?_, fun hr n hn =>
    ⟨fun hk => takeRequest_refused h ?_, fun h1 hk => ?_⟩⟩
  · simp only [decideEntryQuery, if_pos hselector, State.freeSlot_table, hr, if_true]
  · have hout : key < 1 ∨ n < key := hk.imp_left (fun h0 => by omega)
    simp only [decideEntryQuery, if_pos hselector, State.freeSlot_table, if_neg hr, hn, Option.getD_some,
      if_pos hout]
  · have hin : ¬ (key < 1 ∨ n < key) := by omega
    have hlookup : s.table.byRank key = s.table.entries[key - 1]? := by
      obtain ⟨k, rfl⟩ : ∃ k, key = k + 1 := ⟨key - 1, by omega⟩
      rfl
    refine ⟨fun e he => takeRequest_effective h ?_, fun he => takeRequest_refused h ?_⟩
    all_goals
      simp only [decideEntryQuery, if_pos hselector, State.freeSlot_table, if_neg hr, hn, Option.getD_some,
        if_neg hin, hlookup, he, CountTable.answerEntry]

/-- QE by code: its checks in order and the lookup by code (R28). -/
theorem execEntryQuery_byCode {s : State} {key : Nat} {d : Terminator} (h : CanTake s (.qe 67 key) d) :
    (BitVec.ofNat 64 key = 0 → execEntryQuery s = .next (s.replied .QE .RG [])) ∧
    (BitVec.ofNat 64 key ≠ 0 → s.table.run = .empty → execEntryQuery s = .next (s.replied .QE .SA [])) ∧
    (BitVec.ofNat 64 key ≠ 0 → s.table.run ≠ .empty →
      (∀ e, s.table.byCode (BitVec.ofNat 64 key) = some e →
        execEntryQuery s = .next (s.accepted s .QE d (s.table.entryFields e))) ∧
      (s.table.byCode (BitVec.ofNat 64 key) = none → execEntryQuery s = .next (s.replied .QE .NF []))) := by
  unfold execEntryQuery
  have hrank : (67 : Nat) ≠ (asc 'R').toNat := by decide
  have hcode : (67 : Nat) = (asc 'C').toNat := by decide
  refine ⟨fun h0 => takeRequest_refused h ?_, fun h0 hr => takeRequest_refused h ?_, fun h0 hr =>
    ⟨fun e he => takeRequest_effective h ?_, fun he => takeRequest_refused h ?_⟩⟩
  · simp only [decideEntryQuery, if_neg hrank, if_pos hcode, if_pos h0]
  · simp only [decideEntryQuery, if_neg hrank, if_pos hcode, if_neg h0, State.freeSlot_table, hr, if_true]
  all_goals
    simp only [decideEntryQuery, if_neg hrank, if_pos hcode, if_neg h0, State.freeSlot_table, if_neg hr, he,
      CountTable.answerEntry]

/-- QE of another selector. -/
theorem execEntryQuery_other {s : State} {selector key : Nat} {d : Terminator}
    (h : CanTake s (.qe selector key) d) (hrank : selector ≠ 82) (hcode : selector ≠ 67) :
    execEntryQuery s = .next (s.replied .QE .RG []) := by
  unfold execEntryQuery
  have hr : selector ≠ (asc 'R').toNat := hrank
  have hc : selector ≠ (asc 'C').toNat := hcode
  exact takeRequest_refused h (by simp only [decideEntryQuery, if_neg hr, if_neg hc])

/-- QH: its checks in order, and the reply of the location its number names (R47). -/
theorem execLocationQuery_cases {s : State} {number : Nat} {d : Terminator} (h : CanTake s (.qh number) d) :
    (s.table.run = .empty → execLocationQuery s = .next (s.replied .QH .SA [])) ∧
    (s.table.run ≠ .empty → s.table.locOfNumber number = none →
      execLocationQuery s = .next (s.replied .QH .RG [.num s.table.shelfCount])) ∧
    (s.table.run ≠ .empty → ∀ l, s.table.locOfNumber number = some l →
      execLocationQuery s = .next (s.accepted s .QH d (s.table.locationFields l))) := by
  unfold execLocationQuery
  refine ⟨fun hr => takeRequest_refused h ?_, fun hr hl => takeRequest_refused h ?_, fun hr l hl =>
    takeRequest_effective h ?_⟩
  · simp only [decideLocationQuery, State.freeSlot_table, hr, if_true]
  all_goals simp only [decideLocationQuery, State.freeSlot_table, if_neg hr, hl]

/-- A count that verdicts give is absent in LOADING alone, outside EMPTY (R42). -/
theorem CountTable.verdictCount_eq {c : CountTable} (hr : c.run ≠ .empty) (n : Nat) :
    c.verdictCount n = if c.run = .loading then .absent else .num n := by
  unfold CountTable.verdictCount
  by_cases hl : c.run = .loading
  · rw [if_pos hl, if_neg (by simp [RunState.hasVerdicts_eq_false.mpr (.inr hl)])]
  · have hv : c.run.hasVerdicts = true := by
      rw [← Bool.not_eq_false, RunState.hasVerdicts_eq_false]
      tauto
    rw [if_neg hl, if_pos hv]

/-- Settles O36: the two lookups of QE, the locations of QH, and the fields of both replies in their order. -/
theorem entryAndLocationQueries : Obligations.EntryAndLocationQueries := by
  refine ⟨fun s selector key d h => ?_, fun s number d h => ?_⟩
  · intro item byRank byCode found
    have hfound : ∀ e, s.table.entryFields e = found e := s.table.entryFields_eq
    simp only [← hfound]
    change (_ → _ → execEntryQuery s = _) ∧ (_ → _ → execEntryQuery s = _) ∧ _
    refine ⟨fun hrank hcode => ?_, fun hsel hr => ?_, fun hrank hr n hn => ?_, fun hcode h0 hr => ?_⟩
    · by_cases hc : selector = 67
      · subst hc
        exact (execEntryQuery_byCode h).1 (hcode.resolve_left (not_not.mpr rfl))
      · exact execEntryQuery_other h hrank hc
    · rcases hsel with hrank | ⟨hcode, h0⟩
      · cases hrank
        exact (execEntryQuery_byRank h).1 hr
      · cases hcode
        exact (execEntryQuery_byCode h).2.1 h0 hr
    · cases hrank
      exact (execEntryQuery_byRank h).2 hr n hn
    · cases hcode
      exact (execEntryQuery_byCode h).2.2 h0 hr
  · intro c given fields shelf loose
    obtain ⟨hSA, hRG, hOK⟩ := execLocationQuery_cases h
    have hfields : c.run ≠ .empty → ∀ l : Loc, l.number = number → c.locationFields l = fields l := by
      intro hr l hl
      simp only [CountTable.locationFields, CountTable.countFields, CountTable.verdictCount_eq hr, Field.loc, hl]
      rfl
    refine ⟨hSA, fun hr hs hl => hRG hr ?_, fun hr hs => ?_, fun hr hle hl => ?_⟩
    · have hno : ¬ c.isShelf number = true := CountTable.isShelf_iff.not.mpr hs
      exact (if_neg hno).trans (if_neg (by simpa [loose] using hl))
    · have hyes : c.isShelf number = true := CountTable.isShelf_iff.mpr hs
      rw [← hfields hr (.shelf number) rfl]
      exact hOK hr _ (if_pos hyes)
    · have hno : ¬ c.isShelf number = true := by
        rw [CountTable.isShelf_iff]
        omega
      have hnumber : (Loc.loose (number - 128)).number = number := by
        simp only [Loc.number]
        omega
      rw [← hfields hr _ hnumber]
      exact hOK hr _ ((if_neg hno).trans (if_pos (by simpa [loose] using hl)))

end Sys2Proof.Machine
end

section
/-! SUPPORT. The standings follow the placements and the order jobs through every step. -/

namespace Sys2Proof.Machine

/-! ## The walk of a job (R105, R106) -/

theorem Piles.ranks_foldl_lay (sequence : List Nat) (p : Piles) :
    (sequence.foldl Piles.lay p).ranks = sequence.reverse ++ p.ranks := by
  induction sequence generalizing p with
  | nil => rfl
  | cons r rest ih =>
    rw [List.foldl_cons, ih]
    simp [Piles.lay, Piles.ranks]

/-- A walk lays the ranks of its sequence (R105). -/
theorem mem_walk_ranks {sequence : List Nat} {r : Nat} : r ∈ (walk sequence).ranks ↔ r ∈ sequence := by
  rw [walk, Piles.ranks_foldl_lay]
  simp [Piles.none, Piles.ranks]

/-- The read-back gives IN or OUT (R106). -/
theorem Piles.standing_cases (p : Piles) (r : Nat) : p.standing r = .inOrder ∨ p.standing r = .out := by
  unfold Piles.standing
  split
  · exact .inl rfl
  · exact .inr rfl

/-! ## What the standings clauses read -/

/-- What the standings clauses read of an entry: its rank, its placement and its two standings. -/
def Entry.stood (e : Entry) : Nat × Option Placement × Standing × Standing :=
  (e.rank, e.placement, e.shelfStanding, e.runStanding)

theorem Entry.stood_eq_iff {e e' : Entry} : e'.stood = e.stood ↔
    e'.rank = e.rank ∧ e'.placement = e.placement ∧ e'.shelfStanding = e.shelfStanding ∧
      e'.runStanding = e.runStanding := by
  simp [Entry.stood]

theorem Entry.positioned_congr {e e' : Entry} (h : e'.placement = e.placement) :
    e'.Positioned ↔ e.Positioned := by
  unfold Entry.Positioned
  rw [h]

/-- The standings clauses on one entry. -/
structure Entry.StandsIn (e : Entry) (run : RunState) (phase : SweepPhase) (jobs : List Nat) : Prop where
  shelf : e.shelfStanding ≠ .none ↔ e.Positioned
  pending : e.shelfStanding = .pending →
    phase = .order ∧ ∃ p t, e.placement = some p ∧ p.loc = .shelf t ∧ t ∈ jobs
  closedRun : run = .closed →
    ((e.runStanding = .inOrder ∨ e.runStanding = .out) ↔ e.Positioned) ∧ (e.runStanding = .none ↔ ¬ e.Positioned)
  openRun : run ≠ .closed → e.runStanding = .none

/-- The standings clauses on the job in flight: it has walked its sequence under its tolerance (R108, R111). -/
structure OrderUnit.Walked (o : OrderUnit) (entries : List Entry) (shelves : List Nat) : Prop where
  shelf : ∀ t, o.current = .shelf t →
    ∃ tolerance, o.tolerance = some tolerance ∧ o.piles = walk (shelfSequence entries tolerance t)
  run : o.current = .run →
    ∃ tolerance, o.tolerance = some tolerance ∧ o.piles = walk (runSequence entries tolerance shelves)

theorem State.standingsSound_iff {s : State} : s.StandingsSound ↔
    (∀ e ∈ s.table.entries, e.StandsIn s.table.run s.sweep.phase s.order.jobs) ∧
      s.order.Walked s.table.entries s.table.shelfNumbers :=
  ⟨fun h => ⟨fun e he => ⟨h.shelf e he, h.pending e he, fun hr => h.closedRun hr e he, fun hr => h.openRun hr e he⟩,
      h.shelfWalk, h.runWalk⟩,
    fun ⟨h, hw⟩ => ⟨fun e he => (h e he).shelf, fun e he => (h e he).pending, fun hr e he => (h e he).closedRun hr,
      fun hr e he => (h e he).openRun hr, hw.shelf, hw.run⟩⟩

/-! ## The clauses carried from state to state -/

/-- An entry that stands as it did, in a run that is CLOSED or not as it was; ORDER and the job list are kept. -/
theorem Entry.StandsIn.carried {e e' : Entry} {r r' : RunState} {p p' : SweepPhase} {jobs : List Nat}
    (h : e.StandsIn r p jobs) (he : e'.stood = e.stood) (hr : r' = .closed ↔ r = .closed)
    (hp : p = .order → p' = .order) : e'.StandsIn r' p' jobs := by
  obtain ⟨-, hplace, hshelf, hrun⟩ := Entry.stood_eq_iff.mp he
  refine ⟨?_, ?_, ?_, ?_⟩
  · rw [hshelf, Entry.positioned_congr hplace]
    exact h.shelf
  · rw [hshelf, hplace]
    exact fun hpend => (h.pending hpend).imp_left hp
  · rw [hrun, Entry.positioned_congr hplace]
    exact fun hc => h.closedRun (hr.mp hc)
  · rw [hrun]
    exact fun hn => h.openRun (fun hc => hn (hr.mpr hc))

/-- The sequence of a shelf reads rank and placement alone (R103). -/
theorem shelfSequence_map {f : Entry → Entry} (hf : ∀ e, (f e).stood = e.stood) (entries : List Entry)
    (tolerance t : Nat) : shelfSequence (entries.map f) tolerance t = shelfSequence entries tolerance t := by
  have hkey : ∀ e, (f e).sequenceKey tolerance t = e.sequenceKey tolerance t := by
    intro e
    obtain ⟨hrank, hplace, -⟩ := Entry.stood_eq_iff.mp (hf e)
    unfold Entry.sequenceKey
    rw [hrank, hplace]
  simp only [shelfSequence, List.filterMap_map, Function.comp_def, hkey]

theorem OrderUnit.Walked.map {o : OrderUnit} {entries : List Entry} {shelves : List Nat}
    (h : o.Walked entries shelves) {f : Entry → Entry} (hf : ∀ e, (f e).stood = e.stood) :
    o.Walked (entries.map f) shelves where
  shelf := by simpa only [shelfSequence_map hf] using h.shelf
  run := by
    have hrun : ∀ tolerance, runSequence (entries.map f) tolerance shelves = runSequence entries tolerance shelves :=
      fun tolerance => congrArg (fun g => shelves.flatMap g) (funext (fun t => shelfSequence_map hf entries tolerance t))
    simpa only [hrun] using h.run

/-- A change of entries that leaves ranks, placements and standings, with the Order Unit as it was. -/
theorem State.StandingsSound.carried {s t : State} (h : s.StandingsSound) {f : Entry → Entry}
    (hf : ∀ e, (f e).stood = e.stood) (he : t.table.entries = s.table.entries.map f)
    (hg : t.table.geometry = s.table.geometry) (hr : t.table.run = s.table.run) (ho : t.order = s.order)
    (hp : s.sweep.phase = .order → t.sweep.phase = .order) : t.StandingsSound := by
  obtain ⟨hstands, hwalked⟩ := State.standingsSound_iff.mp h
  have hshelves : t.table.shelfNumbers = s.table.shelfNumbers := by
    simp [CountTable.shelfNumbers, CountTable.shelfCount_congr hg]
  refine State.standingsSound_iff.mpr ⟨?_, ?_⟩
  · rw [he, ho]
    exact List.forall_mem_map.mpr (fun e hmem => (hstands e hmem).carried (hf e) (by rw [hr]) hp)
  · rw [he, ho, hshelves]
    exact hwalked.map hf

/-- The standings clauses read the table, the Order Unit and whether ORDER is under way. -/
theorem State.StandingsSound.congr {s t : State} (h : s.StandingsSound) (ht : t.table = s.table)
    (ho : t.order = s.order) (hp : s.sweep.phase = .order → t.sweep.phase = .order) : t.StandingsSound :=
  h.carried (f := id) (fun _ => rfl) (by rw [ht, List.map_id]) (by rw [ht]) (by rw [ht]) ho hp

/-- No job is in flight outside ORDER and CLOSING (R102). -/
theorem State.Controlled.walked_of_noJob {s : State} (h : s.Controlled) (hp : s.sweep.phase = .idle)
    (hr : s.table.run ≠ .closing) (entries : List Entry) (shelves : List Nat) : s.order.Walked entries shelves where
  shelf t ht := by simpa [hp] using h.inOrder ht
  run hj := absurd hj (h.noRunJob hr)

theorem OrderUnit.beginShelf_walked (entries : List Entry) (tolerance : Nat) (jobs shelves : List Nat) :
    (OrderUnit.beginShelf entries tolerance jobs).Walked entries shelves := by
  cases jobs with
  | nil => exact ⟨nofun, nofun⟩
  | cons t rest =>
    refine ⟨fun u hu => ?_, nofun⟩
    cases hu
    exact ⟨tolerance, rfl, rfl⟩

/-- A table without entries, with no job in flight. -/
theorem State.standingsSound_of_noEntries {s : State} (he : s.table.entries = [])
    (hw : s.order.Walked s.table.entries s.table.shelfNumbers) : s.StandingsSound :=
  State.standingsSound_iff.mpr ⟨by simp [he], hw⟩

/-- ORDER completes with an empty job list, when no entry is PENDING (R79). -/
theorem State.StandingsSound.completeOrder {s : State} (h : s.StandingsSound) (hj : s.order.jobs = []) :
    s.completeOrder.StandingsSound := by
  obtain ⟨hstands, hwalked⟩ := State.standingsSound_iff.mp h
  refine State.standingsSound_iff.mpr ⟨?_, by simpa using hwalked⟩
  simp only [State.completeOrder_table, State.completeOrder_order]
  intro e he
  refine { hstands e he with pending := fun hpend => ?_ }
  obtain ⟨-, p, t, -, -, ht⟩ := (hstands e he).pending hpend
  simp [hj] at ht

/-! ## The jobs (R109, R112) -/

/-- An entry's rank is in the sequence of a shelf exactly when it is placed there with a position (R103). -/
theorem State.ListSound.rank_mem_shelfSequence {s : State} (h : s.ListSound) {e : Entry}
    (he : e ∈ s.table.entries) (tolerance t : Nat) : e.rank ∈ shelfSequence s.table.entries tolerance t ↔
      ∃ p, e.placement = some p ∧ p.loc = .shelf t ∧ p.position ≠ none := by
  rw [mem_shelfSequence]
  refine ⟨?_, fun hp => ⟨e, he, rfl, hp⟩⟩
  rintro ⟨x, hx, hrank, hp⟩
  rwa [List.inj_on_of_nodup_map h.ranks_nodup hx he hrank] at hp

/-- An entry's rank is in the run-wide sequence exactly when it is positioned (R104). -/
theorem State.LocationsSound.rank_mem_runSequence {s : State} (h : s.LocationsSound) (hl : s.ListSound) {e : Entry}
    (he : e ∈ s.table.entries) (tolerance : Nat) :
    e.rank ∈ runSequence s.table.entries tolerance s.table.shelfNumbers ↔ e.Positioned := by
  have hpos : e.Positioned ↔ ∃ p t, e.placement = some p ∧ p.loc = .shelf t ∧ p.position ≠ none := by
    simp only [Entry.Positioned, ← Option.ne_none_iff_isSome]
  rw [h.mem_runSequence, hpos]
  refine ⟨?_, fun hp => ⟨e, he, rfl, hp⟩⟩
  rintro ⟨x, hx, hrank, hp⟩
  rwa [List.inj_on_of_nodup_map hl.ranks_nodup hx he hrank] at hp

/-- A shelf job writes IN or OUT to the entries of its shelf, which leaves the list; PENDING stays on the shelves
behind it (R109). -/
theorem State.StandingsSound.shelfJobDone {s : State} (h : s.StandingsSound) (hc : s.Controlled) (hl : s.ListSound)
    {t : Nat} (hj : s.order.current = .shelf t) : s.shelfJobDone.StandingsSound := by
  obtain ⟨hstands, hwalked⟩ := State.standingsSound_iff.mp h
  obtain ⟨tolerance, -, hpiles⟩ := hwalked.shelf t hj
  have hhead : s.order.jobs.head? = some t := (hc.shelfJobInOrder.2 t).mp hj
  refine State.standingsSound_iff.mpr ⟨?_, OrderUnit.beginShelf_walked _ _ _ _⟩
  simp only [State.shelfJobDone, OrderUnit.beginShelf_jobs, writeShelfStandings, hpiles, mem_walk_ranks]
  refine List.forall_mem_map.mpr (fun e he => ?_)
  split
  next hmem =>
    obtain ⟨p, hp, hloc, hx⟩ := (hl.rank_mem_shelfSequence he tolerance t).mp hmem
    have hpos : e.Positioned := ⟨p, t, hp, hloc, Option.ne_none_iff_isSome.mp hx⟩
    have hstanding := Piles.standing_cases (walk (shelfSequence s.table.entries tolerance t)) e.rank
    exact { hstands e he with
      shelf := iff_of_true (by rcases hstanding with h | h <;> simp [h]) hpos
      pending := fun hpend => by rcases hstanding with h | h <;> simp [h] at hpend }
  next hmem =>
    refine { hstands e he with pending := fun hpend => ?_ }
    obtain ⟨horder, p, u, hp, hloc, hu⟩ := (hstands e he).pending hpend
    refine ⟨horder, p, u, hp, hloc, ?_⟩
    have hne : u ≠ t := by
      rintro rfl
      obtain ⟨q, v, hq, -, hx⟩ := (hstands e he).shelf.mp (by simp [hpend])
      obtain rfl : p = q := Option.some.inj (hp.symm.trans hq)
      exact hmem ((hl.rank_mem_shelfSequence he tolerance u).mpr ⟨p, hp, hloc, Option.ne_none_iff_isSome.mpr hx⟩)
    cases hjobs : s.order.jobs with
    | nil => simp [hjobs] at hu
    | cons v rest =>
      obtain rfl : v = t := by simpa [hjobs] using hhead
      rw [hjobs] at hu
      exact (List.mem_cons.mp hu).resolve_left hne

theorem State.StandingsSound.completeShelfJob {s : State} (h : s.StandingsSound) (hc : s.Controlled)
    (hl : s.ListSound) {t : Nat} (hj : s.order.current = .shelf t) : s.completeShelfJob.StandingsSound := by
  rw [State.completeShelfJob_eq]
  split
  next he =>
    exact (h.shelfJobDone hc hl hj).completeOrder (by simpa [State.shelfJobDone] using he)
  · exact h.shelfJobDone hc hl hj

/-- The run-wide job writes IN or OUT to the positioned entries and NONE to every other one (R112). -/
theorem State.StandingsSound.completeRunJob {s : State} (h : s.StandingsSound) (hl : s.ListSound)
    (hloc : s.LocationsSound) (hc : s.Controlled) (hj : s.order.current = .run) :
    s.completeRunJob.StandingsSound := by
  obtain ⟨hstands, hwalked⟩ := State.standingsSound_iff.mp h
  obtain ⟨tolerance, -, hpiles⟩ := hwalked.run hj
  have hidle : s.sweep.phase = .idle := hc.noSweep (by simp [hc.runJobInClosing.mp hj])
  refine State.standingsSound_iff.mpr ⟨?_, ⟨nofun, nofun⟩⟩
  simp only [State.completeRunJob, State.report_table, State.report_sweep, State.report_order, writeRunStandings,
    hpiles, mem_walk_ranks]
  refine List.forall_mem_map.mpr (fun e he => ?_)
  have hmem := hloc.rank_mem_runSequence hl he tolerance
  have hpos : ∀ standing, ({ e with runStanding := standing } : Entry).Positioned ↔ e.Positioned := fun _ => Iff.rfl
  refine ⟨(hstands e he).shelf, fun hpend => ?_, fun _ => ?_, fun hn => absurd rfl hn⟩
  · simpa [hidle] using ((hstands e he).pending hpend).1
  · simp only [hpos, ← hmem]
    split
    next hin =>
      rcases Piles.standing_cases (walk (runSequence s.table.entries tolerance s.table.shelfNumbers)) e.rank with
        hst | hst <;> simp [hst, hin]
    next hout => simp [hout]

end Sys2Proof.Machine
end

section
/-! SUPPORT. The standings after a commit, and the standings kept by every effect. -/

namespace Sys2Proof.Machine

/-! ## The commit (R94 to R96, R99) -/

/-- The commit has reached the entry: it has no placement, or one on the target, which is affected. -/
def CommitWork.Reaches (c : Commit) (w : CommitWork) (y : Entry) : Prop :=
  y.rank ∈ w.reached ∧ ∀ p, y.placement = some p → p.loc = c.target ∧ c.target ∈ w.affected

/-- An entry in the work of a commit comes from one of the table, whose run standing it has; the commit has
reached it, or it stands as it did. -/
def CommitWork.StandsFrom (c : Commit) (w : CommitWork) (y e : Entry) : Prop :=
  y.runStanding = e.runStanding ∧ (w.Reaches c y ∨ (y.rank ∉ w.reached ∧ y.stood = e.stood))

/-- The vacate reaches the entries placed on the target (R94). -/
theorem CountTable.offersStart_standsFrom {t : CountTable} (hn : (t.entries.map (·.rank)).Nodup) (c : Commit) :
    ∀ y ∈ (t.offersStart c).entries, ∃ e ∈ t.entries, (t.offersStart c).StandsFrom c y e := by
  unfold CountTable.offersStart
  split
  · have hreached : ∀ r, r ∈ (t.commitStart.vacate c.target).reached ↔
        ∃ x ∈ t.entries, x.placedAt c.target = true ∧ x.rank = r := by
      intro r
      simp [CommitWork.vacate, CountTable.commitStart, and_assoc]
    refine List.forall_mem_map.mpr (fun e he => ⟨e, he, ?_⟩)
    unfold Entry.vacate
    split
    next hat => exact ⟨rfl, .inl ⟨(hreached _).mpr ⟨e, he, hat, rfl⟩, nofun⟩⟩
    next hat =>
      refine ⟨rfl, .inr ⟨fun hmem => ?_, rfl⟩⟩
      obtain ⟨x, hx, hxat, hrank⟩ := (hreached _).mp hmem
      exact hat (List.inj_on_of_nodup_map hn hx he hrank ▸ hxat)
  · exact fun e he => ⟨e, he, rfl, .inr ⟨List.not_mem_nil, rfl⟩⟩

/-- An offer reaches the entries of its rank, and places them on the target (R96). -/
theorem Applies.standsFrom {g : Option Geometry} {c : Commit} {before : List Entry} {o : Offer}
    {w w' : CommitWork} (h : Applies g c before o w w') {es : List Entry}
    (hw : ∀ y ∈ w.entries, ∃ e ∈ es, w.StandsFrom c y e) : ∀ y ∈ w'.entries, ∃ e ∈ es, w'.StandsFrom c y e := by
  have hsub := h.affected_subset
  cases h
  case placedListed rank e x hk he ho hx =>
    refine List.forall_mem_map.mpr (fun y hy => ?_)
    obtain ⟨e', he', hrun, hcase⟩ := hw y hy
    refine ⟨e', he', ?_⟩
    by_cases hr : (y.rank == rank) = true
    · rw [if_pos hr]
      refine ⟨hrun, .inl ⟨List.mem_cons.mpr (.inl (eq_of_beq hr)), fun p hp => ?_⟩⟩
      rw [← Option.some.inj hp]
      exact ⟨rfl, List.mem_append_left _ (mem_affectedBy.mpr (.inl rfl))⟩
    · rw [if_neg hr]
      refine ⟨hrun, hcase.imp (fun ⟨hreached, hplace⟩ => ?_) (fun ⟨hnot, hstood⟩ => ?_)⟩
      · exact ⟨List.mem_cons_of_mem _ hreached, fun p hp => ⟨(hplace p hp).1, hsub (hplace p hp).2⟩⟩
      · exact ⟨List.not_mem_cons_of_ne_of_not_mem (by simpa using hr) hnot, hstood⟩
  all_goals
    intro y hy
    obtain ⟨e', he', hrun, hcase⟩ := hw y hy
    exact ⟨e', he', hrun, hcase.imp_left (fun ⟨hreached, hplace⟩ =>
      ⟨hreached, fun p hp => ⟨(hplace p hp).1, hsub (hplace p hp).2⟩⟩)⟩

theorem CountTable.applyOffers_standsFrom {t : CountTable} (hn : (t.entries.map (·.rank)).Nodup) (c : Commit) :
    ∀ y ∈ (t.applyOffers c).entries, ∃ e ∈ t.entries, (t.applyOffers c).StandsFrom c y e :=
  t.applyOffers_induction c (P := fun _ w => ∀ y ∈ w.entries, ∃ e ∈ t.entries, w.StandsFrom c y e)
    (CountTable.offersStart_standsFrom hn c) (fun _ _ _ _ _ _ hw ha => ha.standsFrom hw)

/-- The standings of an entry that a commit settles (R99). -/
theorem Entry.settle_standings (c : Commit) (w : CommitWork) (e : Entry) :
    (e.settle c w).shelfStanding =
      (if e.standsAffected w.affected then .pending
        else if e.rank ∈ w.reached then .none else e.shelfStanding) ∧
    (e.settle c w).runStanding = e.runStanding := by
  unfold Entry.settle
  rw [Entry.convertReturned_eq, Entry.clearInSweep_eq]
  dsimp only
  unfold Entry.settleStanding
  split_ifs <;> exact ⟨rfl, rfl⟩

theorem Entry.standsAffected_iff {affected : List Loc} {e : Entry} : e.standsAffected affected = true ↔
    ∃ p t, e.placement = some p ∧ p.loc = .shelf t ∧ p.position.isSome = true ∧ .shelf t ∈ affected := by
  unfold Entry.standsAffected
  rw [Option.any_eq_true]
  refine exists_congr (fun p => ?_)
  cases p.loc <;> simp [Loc.isShelf]

/-- A settled entry: PENDING with a position on an affected shelf, NONE where the commit left it without one, and
as it stood where the commit did not reach it (R99). -/
theorem CommitWork.StandsFrom.settled {c : Commit} {w : CommitWork} {y e : Entry} (h : w.StandsFrom c y e)
    {phase : SweepPhase} {jobs : List Nat} (he : e.StandsIn .opened phase jobs) (hp : phase ≠ .order)
    (hjobs : ∀ p t, y.placement = some p → p.loc = .shelf t → .shelf t ∈ w.affected → t ∈ w.affectedShelves) :
    (y.settle c w).StandsIn .opened .order w.affectedShelves := by
  obtain ⟨hrun, hcase⟩ := h
  obtain ⟨hshelf', hrun'⟩ := y.settle_standings c w
  have hplace := Entry.settle_placement c w y
  have hnone : (y.settle c w).runStanding = .none := by rw [hrun', hrun, he.openRun nofun]
  suffices hs : ((y.settle c w).shelfStanding ≠ .none ↔ y.Positioned) ∧
      ((y.settle c w).shelfStanding = .pending → y.standsAffected w.affected = true) by
    refine ⟨hs.1.trans (Entry.positioned_congr hplace).symm, fun hpend => ⟨rfl, ?_⟩, nofun, fun _ => hnone⟩
    obtain ⟨p, t, hyp, hloc, -, haff⟩ := Entry.standsAffected_iff.mp (hs.2 hpend)
    exact ⟨p, t, hplace.trans hyp, hloc, hjobs p t hyp hloc haff⟩
  rw [hshelf']
  by_cases haff : y.standsAffected w.affected = true
  · obtain ⟨p, t, hyp, hloc, hx, -⟩ := Entry.standsAffected_iff.mp haff
    rw [if_pos haff]
    exact ⟨iff_of_true nofun ⟨p, t, hyp, hloc, hx⟩, fun _ => haff⟩
  · rw [if_neg haff]
    rcases hcase with ⟨hreached, htarget⟩ | ⟨hnot, hstood⟩
    · rw [if_pos hreached]
      refine ⟨iff_of_false (fun hn => hn rfl) ?_, nofun⟩
      rintro ⟨p, t, hyp, hloc, hx⟩
      obtain ⟨hl, hmem⟩ := htarget p hyp
      exact haff (Entry.standsAffected_iff.mpr ⟨p, t, hyp, hloc, hx, hloc ▸ hl ▸ hmem⟩)
    · obtain ⟨-, hyp, hyshelf, -⟩ := Entry.stood_eq_iff.mp hstood
      rw [if_neg hnot, hyshelf, Entry.positioned_congr hyp]
      exact ⟨he.shelf, fun hpend => absurd (he.pending hpend).1 hp⟩

/-- A placement in the work of a commit stands on a location of the run (R94, R96). -/
theorem State.LocationsSound.work_hasLoc {s : State} (h : s.LocationsSound) {c : Commit}
    (ht : s.table.hasLoc c.target = true) {p : Placement} (hp : (s.table.applyOffers c).HoldsPlacement p) :
    s.table.hasLoc p.loc = true := by
  rcases s.table.applyOffers_placements c p hp with hold | ⟨o, -, rfl⟩
  · exact (h.placements p hold).1
  · exact ht

theorem State.StandingsSound.committed {s : State} (h : s.StandingsSound) (hin : s.table.InRange)
    (hc : s.Controlled) (hl : s.ListSound) (hloc : s.LocationsSound) {c : Commit} (hp : s.sweep.phase = .commit)
    (hflight : s.sweep.inFlight = some c) : (s.committed c).StandingsSound := by
  have hrun : s.table.run = .opened := (hc.sweepInOpenRun (by simp [hp])).1
  have htarget := (hloc.commitTarget hc hp hflight).2
  refine State.standingsSound_iff.mpr ⟨?_, ?_⟩
  · simp only [State.committed_table, State.committed_sweep, State.committed_order, CountTable.commit_run,
      CountTable.commit_entries, OrderUnit.beginShelf_jobs, hrun]
    refine List.forall_mem_map.mpr (fun y hy => ?_)
    obtain ⟨e, he, hfrom⟩ := CountTable.applyOffers_standsFrom hl.ranks_nodup c y hy
    refine hfrom.settled (hrun ▸ (State.standingsSound_iff.mp h).1 e he) (by simp [hp]) (fun p t hyp hpl haff => ?_)
    have hhas := hloc.work_hasLoc htarget (.inl ⟨y, hy, hyp⟩)
    rw [hpl] at hhas
    exact (CommitWork.mem_affectedShelves_of_hasLoc hin hhas).mpr haff
  · rw [State.committed_order, State.committed_table]
    exact OrderUnit.beginShelf_walked _ _ _ _

theorem State.StandingsSound.commitEvent {s : State} (h : s.StandingsSound) (hin : s.table.InRange)
    (hc : s.Controlled) (hl : s.ListSound) (hloc : s.LocationsSound) {c : Commit} (hp : s.sweep.phase = .commit)
    (hflight : s.sweep.inFlight = some c) : (s.commitEvent c).StandingsSound := by
  have hdone := h.committed hin hc hl hloc hp hflight
  rw [State.commitEvent_eq]
  split
  next he => exact hdone.completeOrder (by simpa using he)
  · exact hdone

/-! ## The requests -/

theorem Frees.standings {s u : State} (hf : Frees s u) (h : s.StandingsSound) : u.StandingsSound := by
  cases hf <;> exact h.congr rfl rfl id

theorem Entry.notice_stood (run : RunState) (windowOpen : Bool) (n : Nat) (st : CircStatus) (e : Entry) :
    (e.notice run windowOpen n st).stood = e.stood := by
  unfold Entry.notice
  split
  · rfl
  split
  · rfl
  · cases st <;> rfl

/-- An abandonment touches marks alone, outside ORDER (R81). -/
theorem State.StandingsSound.abandonSweep {s : State} (h : s.StandingsSound) (hc : s.Controlled)
    (hp : s.sweep.phase = .opened ∨ s.sweep.phase = .finalize) : s.abandonSweep.StandingsSound := by
  obtain ⟨target, -, htable⟩ := hc.abandonSweep_table hp
  refine h.carried (f := fun e => Entry.settleReturned target (e.clearInSweep (listedRanks s.sweep.sightings)))
    (fun e => ?_) (by rw [htable, CountTable.abandon_entries]) (by simp) (by simp) rfl
    (fun ho => by rcases hp with hp | hp <;> simp [hp] at ho)
  rw [Entry.settleReturned_eq, Entry.clearInSweep_eq]
  rfl

theorem State.StandingsSound.openSweep {s : State} (h : s.StandingsSound) (target : Loc) (mode : SweepMode)
    (hp : s.sweep.phase = .idle) : (s.openSweep target mode).StandingsSound :=
  h.carried (f := id) (fun _ => rfl) (by simp [State.openSweep]) (by simp [State.openSweep])
    (by simp [State.openSweep]) rfl (fun ho => by simp [hp] at ho)

theorem State.StandingsSound.endSweep {s : State} (h : s.StandingsSound) (hp : s.sweep.phase = .opened) :
    s.endSweep.StandingsSound :=
  h.congr rfl rfl (fun ho => by simp [hp] at ho)

theorem State.StandingsSound.softReset {s : State} (h : s.StandingsSound) (hc : s.Controlled) :
    s.softReset.StandingsSound := by
  have h1 : (if s.sweep.abandonable then s.abandonSweep else s).StandingsSound := by
    split
    next ha => exact h.abandonSweep hc (by simpa [SweepUnit.abandonable] using ha)
    · exact h
  exact h1.congr rfl rfl id

/-- RO takes every run standing (R6). -/
theorem State.StandingsSound.reopen {s : State} (h : s.StandingsSound) (hc : s.Controlled)
    (hr : s.table.run = .closed) : State.StandingsSound { s with table := s.table.reopen } := by
  obtain ⟨hstands, -⟩ := State.standingsSound_iff.mp h
  refine State.standingsSound_iff.mpr
    ⟨?_, hc.walked_of_noJob (hc.noSweep (by simp [hr])) (by simp [hr]) _ _⟩
  exact List.forall_mem_map.mpr (fun e he => { hstands e he with closedRun := nofun, openRun := fun _ => rfl })

/-- A filed entry has no placement and no standing (R16). -/
theorem State.StandingsSound.file {s : State} (h : s.StandingsSound) (hc : s.Controlled)
    (hr : s.table.run = .loading) (items rank shelf : Nat) (item : ItemCode) (st : CircStatus) (watch : Bool) :
    State.StandingsSound { s with table := s.table.file items (fileEntry rank item shelf st watch) } := by
  obtain ⟨hstands, -⟩ := State.standingsSound_iff.mp h
  have hopen : (s.table.file items (fileEntry rank item shelf st watch)).run ≠ .closed := by
    simp only [CountTable.file, hr]
    split <;> simp
  refine State.standingsSound_iff.mpr ⟨fun e he => ?_, hc.walked_of_noJob (hc.noSweep (by simp [hr])) (by simp [hr]) _ _⟩
  rcases List.mem_append.mp he with he | he
  · exact (hstands e he).carried rfl (iff_of_false hopen (by simp [hr])) id
  · rw [List.mem_singleton.mp he]
    exact ⟨by simp [fileEntry, Entry.Positioned], nofun, fun hclosed => absurd hclosed hopen, fun _ => rfl⟩

/-- CR begins the run-wide job, which walks its sequence (R4, R111). -/
theorem State.StandingsSound.beginClose {s : State} (h : s.StandingsSound) (hr : s.table.run = .opened)
    (hp : s.sweep.phase = .idle) : s.beginClose.StandingsSound := by
  obtain ⟨hstands, -⟩ := State.standingsSound_iff.mp h
  refine State.standingsSound_iff.mpr ⟨fun e he => ?_, ⟨nofun, fun _ => ⟨_, rfl, rfl⟩⟩⟩
  exact {
    shelf := (hstands e he).shelf
    pending := fun hpend => by simpa [hp] using ((hstands e he).pending hpend).1
    closedRun := nofun
    openRun := fun _ => (hstands e he).openRun (by simp [hr]) }

/-- DR leaves no entry, or finds none (R7). -/
theorem State.standingsSound_discardRun {s : State} (hl : s.ListSound) : s.discardRun.StandingsSound := by
  refine State.standingsSound_of_noEntries ?_ ⟨nofun, nofun⟩
  by_cases hr : s.table.run = .empty
  · simp [CountTable.discard, hr, (hl.emptyRun hr).1]
  · simp [CountTable.discard, hr, CountTable.cleared]

/-- An accepted request keeps the standings clauses. -/
theorem Performs.standings {s a : State} (ha : Performs s a) (h : s.StandingsSound) (hc : s.Controlled)
    (hl : s.ListSound) : a.StandingsSound := by
  cases ha with
  | nothing => exact h
  | runBegin g hg hr =>
    exact State.standingsSound_of_noEntries (hl.emptyRun hr).1
      (hc.walked_of_noJob (hc.noSweep (by simp [hr])) (by simp [hr]) _ _)
  | listItem rank shelf item st watch h0 hr => exact h.file hc hr _ rank shelf item st watch
  | runClose hr hp => exact h.beginClose hr hp
  | runReopen hr => exact h.reopen hc hr
  | discardRun => exact State.standingsSound_discardRun hl
  | cursorSet => exact h.carried (f := id) (fun _ => rfl) (List.map_id _).symm rfl rfl rfl id
  | notice item st =>
    refine h.carried (f := fun e => if e.code == item then
      e.notice s.table.run (s.sweep.windowOpen e.shelf) (s.table.sweepCount e.shelf) st else e)
      (fun e => ?_) rfl rfl rfl rfl id
    split
    · exact Entry.notice_stood _ _ _ _ _
    · rfl
  | openSweep target mode hr hp => exact h.openSweep target mode hp
  | endSweep hp => exact h.endSweep hp
  | abandon r hp => exact (h.abandonSweep hc hp).congr rfl rfl id
  | acknowledge =>
    unfold State.acknowledge
    split <;> exact h.congr rfl rfl id
  | dormancy | condition | combine | evidenceMode | evidenceRead | setting => exact h.congr rfl rfl id
  | softReset => exact h.softReset hc

/-! ## The effects -/

@[simp] theorem State.receive_order (s : State) (c : Byte) : (s.receive c).order = s.order := by
  unfold State.receive
  repeat' split
  all_goals simp

@[simp] theorem State.arriveRead_order (s : State) (r : DeliveredRead) : (s.arriveRead r).order = s.order := by
  unfold State.arriveRead State.acceptRead
  repeat' split
  all_goals simp

@[simp] theorem State.deliverCount_order (s : State) (l : Loc) : (s.deliverCount l).order = s.order := by
  unfold State.deliverCount
  dsimp only
  repeat' split
  all_goals simp

theorem State.StandingsSound.pressTrigger {s : State} (h : s.StandingsSound) : s.pressTrigger.StandingsSound := by
  unfold State.pressTrigger
  split
  next hp =>
    unfold State.openAttempt
    split
    · exact h.openSweep _ _ hp
    · exact h.congr rfl rfl id
  next hp => exact h.endSweep hp
  · exact h.congr rfl rfl id

/-- A fold marks entries and leaves their standings (R71). -/
theorem State.StandingsSound.foldRead {s : State} (h : s.StandingsSound) (r : StampedRead) :
    (s.foldRead r).StandingsSound := by
  unfold State.foldRead
  dsimp only
  split
  · exact h.congr rfl rfl id
  split
  · exact h.carried (f := fun e => if e.code == r.code then { e with inSweep := true } else e)
      (fun e => by split <;> rfl) rfl rfl rfl rfl id
  · exact h.congr rfl rfl id

/-- Every effect keeps the standings clauses. -/
theorem Effect.standings {s u : State} (he : Effect s u) (h : s.StandingsSound) (hcap : s.Capacities)
    (hc : s.Controlled) (hl : s.ListSound) (hloc : s.LocationsSound) : u.StandingsSound := by
  have hperforms : ∀ {v a}, Frees s v → Performs v a → a.StandingsSound := fun hf ha =>
    ha.standings (hf.standings h) (hf.controlled hc).1 (hl.kept hf.countKept)
  cases he with
  | replied u w code fields hf => exact (hf.standings h).congr rfl rfl id
  | performed u _ hf ha => exact hperforms hf ha
  | performedReplied u a w fields hf ha => exact (hperforms hf ha).congr rfl rfl id
  | filing | barrierWaits | fetch | transmissionEnd | looseCount | switch | patternEnd => exact h.congr rfl rfl id
  | character c => exact h.congr (by simp) (by simp) (fun hp => by simpa using hp)
  | read r => exact h.congr (by simp) (by simp) (fun hp => (s.arriveRead_phase r).1.trans hp)
  | shelfCount d t =>
    unfold State.moveCounter
    exact h.congr (by simp) (by simp) (fun hp => (State.deliverCount_phase _ _).1.trans hp)
  | trigger => exact State.StandingsSound.pressTrigger (h.congr (by simp) (by simp) (fun hp => by simpa using hp))
  | call =>
    unfold State.pressCall
    split <;> exact h.congr (by simp) (by simp) (fun hp => by simpa using hp)
  | idleExpiry hp => exact (h.abandonSweep hc (.inl hp)).congr rfl rfl id
  | fold r rest =>
    have h' : State.StandingsSound { s with port := { s.port with queue := rest } } := h.congr rfl rfl id
    exact h'.foldRead r
  | handOff target mode bleed hp =>
    exact h.congr (by simp [State.handOff]) (by simp [State.handOff]) (fun ho => by simp [hp] at ho)
  | commit c hp hflight => exact h.commitEvent hcap.table hc hl hloc hp hflight
  | shelfJob t hj => exact h.completeShelfJob hc hl hj
  | runJob hj => exact h.completeRunJob hl hloc hc hj

/-- Settles O10: every effect keeps the standings clauses, which the transmitter behind it does not read. -/
theorem standingsAreKept : Obligations.StandingsAreKept := by
  intro s t hcap hc hl hloc hs h
  exact step_keeps
    (H := fun s => s.Capacities ∧ s.Controlled ∧ s.ListSound ∧ s.LocationsSound ∧ s.StandingsSound)
    (G := State.StandingsSound)
    (fun _ _ ⟨h1, h2, h3, h4, h5⟩ => ⟨{ h1 with }, { h2 with }, { h3 with }, { h4 with }, { h5 with }⟩)
    (fun _ ⟨_, _, _, _, h5⟩ => h5)
    (fun _ _ _ => State.standingsSound_of_noEntries rfl ⟨nofun, nofun⟩)
    (fun _ _ ⟨h1, h2, h3, h4, h5⟩ he =>
      (he.standings h5 h1 h2 h3 h4).congr (State.pump_table _) (State.pump_order _) (fun hp => by simpa using hp))
    ⟨hcap, hc, hl, hloc, hs⟩ h

end Sys2Proof.Machine
end

section
/-! SUPPORT. The verdict of an entry, the two marks, and the eleven totals (R33 to R38). -/

namespace Sys2Proof.Machine

/-! ## The verdict of an entry (R33 to R36) -/

section
variable {c : CountTable} {e : Entry}

theorem CountTable.verdict_eq_none (h : c.run.hasVerdicts = false) : c.verdict e = none := by
  simp [CountTable.verdict, h]

theorem CountTable.verdict_placed {p : Placement} (h : c.run.hasVerdicts = true) (hp : e.placement = some p) :
    c.verdict e = some (placedVerdict (e.standingInUse c.run) e.shelf p) := by
  simp [CountTable.verdict, CountTable.derivedVerdict, h, hp]

theorem CountTable.verdict_unplaced (h : c.run.hasVerdicts = true) (hp : e.placement = none) :
    c.verdict e = some (unplacedVerdict e.status e.returned (c.sweepCount e.shelf)) := by
  simp [CountTable.verdict, CountTable.derivedVerdict, h, hp]

/-- A verdict is that of a placed or of an unplaced entry of a run that has verdicts. -/
theorem CountTable.verdict_cases {v : Verdict} (h : c.verdict e = some v) :
    (∃ p, e.placement = some p ∧ v = placedVerdict (e.standingInUse c.run) e.shelf p) ∨
    (e.placement = none ∧ v = unplacedVerdict e.status e.returned (c.sweepCount e.shelf)) := by
  have hv : c.run.hasVerdicts = true := by
    by_contra hn
    simp [CountTable.verdict_eq_none (by simpa using hn)] at h
  cases hp : e.placement with
  | some p =>
    rw [CountTable.verdict_placed hv hp] at h
    exact .inl ⟨p, rfl, (Option.some.inj h).symm⟩
  | none =>
    rw [CountTable.verdict_unplaced hv hp] at h
    exact .inr ⟨rfl, (Option.some.inj h).symm⟩

end

section
variable {standing : Standing} {expected t x : Nat} {p : Placement}

theorem placedVerdict_loose {i : Nat} (hl : p.loc = .loose i) : placedVerdict standing expected p = .loose := by
  simp [placedVerdict, hl]

theorem placedVerdict_heard (hl : p.loc = .shelf t) (hx : p.position = none) :
    placedVerdict standing expected p = .heard := by
  simp [placedVerdict, hl, hx]

/-- With a position on a shelf the standing in use decides (R35). -/
theorem placedVerdict_positioned (hl : p.loc = .shelf t) (hx : p.position = some x) :
    placedVerdict standing expected p =
      (if standing = .inOrder then (if t = expected then .inPlace else .shifted)
        else if standing = .out then .misordered else .pending) := by
  cases standing <;> simp [placedVerdict, hl, hx]

end

/-- The item of the status is out (R37). -/
theorem CircStatus.isOut_iff {st : CircStatus} : st.isOut = true ↔ st = .onLoan ∨ st = .inTransit := by
  cases st <;> simp [CircStatus.isOut]

theorem Entry.conflict_iff {e : Entry} : e.conflict = true ↔
    e.placement ≠ none ∧ (e.status = .onLoan ∨ e.status = .inTransit) ∧ e.lentSince = false := by
  simp [Entry.conflict, CircStatus.isOut_iff, Option.ne_none_iff_isSome, and_assoc]

theorem Entry.recovered_iff {e : Entry} :
    e.recovered = true ↔ e.placement ≠ none ∧ e.status = .declaredMissing := by
  simp [Entry.recovered, Option.ne_none_iff_isSome]

/-- Settles O12: the rows of R35 under the standing in use, and the two marks, which need statuses apart. -/
theorem placedVerdictsAndMarks : Obligations.PlacedVerdictsAndMarks := by
  refine ⟨fun _ => RunState.hasVerdicts_eq_true, fun c e p hv hp => ?_, fun e => ⟨Entry.conflict_iff,
    Entry.recovered_iff, fun ⟨hc, hr⟩ => ?_⟩⟩
  · rw [CountTable.verdict_placed hv hp]
    refine ⟨fun i hl => congrArg some (placedVerdict_loose hl),
      fun t hl hx => congrArg some (placedVerdict_heard hl hx), fun t x hl hx => ?_⟩
    intro standing
    have huse : e.standingInUse c.run = standing := rfl
    rw [placedVerdict_positioned hl hx, huse]
    refine ⟨fun hin ht => ?_, fun hin ht => ?_, fun hout => ?_, fun hrest => ?_⟩
    · rw [if_pos hin, if_pos ht]
    · rw [if_pos hin, if_neg ht]
    · simp [hout]
    · rcases hrest with hst | hst <;> simp [hst]
  · obtain ⟨-, hout, -⟩ := Entry.conflict_iff.mp hc
    obtain ⟨-, hmissing⟩ := Entry.recovered_iff.mp hr
    simp [hmissing] at hout

/-- Settles O13: the rows of R36, in order. -/
theorem unplacedVerdicts : Obligations.UnplacedVerdicts := by
  intro c e hv hp count
  have hcount : c.sweepCount e.shelf = count := rfl
  rw [CountTable.verdict_unplaced hv hp, hcount]
  refine ⟨fun hout => ?_, fun ha hr => ?_, fun ha hr h1 => ?_, fun ha hr h0 => ?_, fun hm h1 => ?_, fun hm h0 => ?_⟩
  · rcases hout with hs | hs <;> simp [hs, unplacedVerdict]
  · cases hret : e.returned with
    | clear => exact absurd hret hr
    | set | setDuring => simp [ha, unplacedVerdict]
  · simp [ha, hr, unplacedVerdict, Nat.one_le_iff_ne_zero.mp h1]
  · simp [ha, hr, unplacedVerdict, h0]
  · simp [hm, unplacedVerdict, Nat.one_le_iff_ne_zero.mp h1]
  · simp [hm, unplacedVerdict, h0]

/-! ## The eleven totals (R38) -/

/-- Pairs counted by rows or by columns. -/
theorem sum_countP_comm {α κ : Type} (p : κ → α → Bool) (ks : List κ) (xs : List α) :
    (ks.map (fun k => xs.countP (p k))).sum = (xs.map (fun x => ks.countP (fun k => p k x))).sum := by
  induction xs with
  | nil => simp
  | cons x xs ih =>
    have hone : (ks.map (fun k => if p k x then 1 else 0)).sum = ks.countP (fun k => p k x) := by
      rw [← sum_map_filter_eq (fun k => p k x) (fun _ => 1), List.countP_eq_length_filter]
      simp
    simp only [List.countP_cons, List.sum_map_add, ih, hone, List.map_cons, List.sum_cons]
    exact Nat.add_comm _ _

/-- The totals sum to the number of pairs of an entry and its verdict. -/
theorem CountTable.totals_sum (c : CountTable) :
    c.totals.sum = (c.entries.map (fun e => Verdict.all.countP (fun v => c.verdict e == some v))).sum :=
  sum_countP_comm (fun v e => c.verdict e == some v) Verdict.all c.entries

/-- Every entry of a sealed run holds one of the eleven verdicts (R33). -/
theorem CountTable.countP_verdict {c : CountTable} (h : c.run.hasVerdicts = true) (e : Entry) :
    Verdict.all.countP (fun v => c.verdict e == some v) = 1 := by
  simp only [CountTable.verdict, h, if_true]
  cases c.derivedVerdict e <;> rfl

theorem CountTable.total_eq_length_filter (c : CountTable) (v : Verdict) :
    c.total v = (c.entries.filter (fun e => decide (c.verdict e = some v))).length := by
  simp only [CountTable.total, List.countP_eq_length_filter, beq_eq_decide]

/-- Settles O14: entries and verdicts are counted in pairs, entry by entry. -/
theorem verdictTotalsSumToN : Obligations.VerdictTotalsSumToN := by
  refine ⟨fun s n hl hv hn => ⟨rfl, ?_, fun e _ => ?_⟩, fun c v => ⟨c.total_eq_length_filter v, ?_⟩,
    fun s hv => ⟨?_, fun e _ => CountTable.verdict_eq_none hv⟩⟩
  · obtain ⟨-, -, hitems⟩ := hl.isSealed hv
    obtain rfl : n = s.table.entries.length := Option.some.inj (hn.symm.trans hitems)
    simp [CountTable.totals_sum, CountTable.countP_verdict hv]
  · simpa only [beq_eq_decide] using CountTable.countP_verdict hv e
  · cases v <;> rfl
  · simp [CountTable.totals_sum, CountTable.verdict_eq_none hv]

end Sys2Proof.Machine
end

section
/-! SUPPORT. The lookups by rank and by code, and the nine counts of a location (R25, R27, R41, R42). -/

namespace Sys2Proof.Machine

/-! ## The lookups (R25, R27, R71) -/

/-- The entries stand in rank order, from rank 1 (R17). -/
theorem State.ListSound.rank_of_getElem? {s : State} (h : s.ListSound) {i : Nat} {e : Entry}
    (he : s.table.entries[i]? = some e) : e.rank = i + 1 := by
  have hi := (List.getElem?_eq_some_iff.mp he).1
  have hrank := congrArg (fun xs : List Nat => xs[i]?) h.ranks
  simpa [he, List.getElem?_range hi] using hrank

theorem State.ListSound.byRank_eq_some {s : State} (h : s.ListSound) (r : Nat) (e : Entry) :
    s.table.byRank r = some e ↔ e ∈ s.table.entries ∧ e.rank = r := by
  constructor
  · intro he
    cases r with
    | zero => cases he
    | succ i => exact ⟨List.mem_of_getElem? he, h.rank_of_getElem? he⟩
  · rintro ⟨hmem, rfl⟩
    obtain ⟨i, hi⟩ := List.mem_iff_getElem?.mp hmem
    rw [h.rank_of_getElem? hi]
    exact hi

theorem State.ListSound.codes_nodup {s : State} (h : s.ListSound) : (s.table.entries.map (·.code)).Nodup :=
  (List.nodup_append.mp h.codes).1

theorem State.ListSound.byCode_eq_some {s : State} (h : s.ListSound) (x : ItemCode) (e : Entry) :
    s.table.byCode x = some e ↔ e ∈ s.table.entries ∧ e.code = x := by
  refine ⟨CountTable.byCode_some, ?_⟩
  rintro ⟨hmem, rfl⟩
  cases hfound : s.table.byCode e.code with
  | none => exact absurd (List.mem_map.mpr ⟨e, hmem, rfl⟩) (CountTable.byCode_eq_none.mp hfound)
  | some y =>
    obtain ⟨hy, hcode⟩ := CountTable.byCode_some hfound
    rw [List.inj_on_of_nodup_map h.codes_nodup hy hmem hcode]

/-! ## The placements that name a location -/

theorem Placement.at_eq (l : Loc) (p : Placement) : p.at l = decide (p.loc = l) := rfl

theorem CountTable.mem_placementsAt {c : CountTable} {l : Loc} {p : Placement} :
    p ∈ c.placementsAt l ↔ c.HoldsPlacement p ∧ p.loc = l := by
  simp [CountTable.placementsAt, CountTable.HoldsPlacement, Placement.at_eq, or_and_right]

/-- The placements on a location are those of the expected entries and those of the foreign ones (R41). -/
theorem CountTable.countP_placementsAt (c : CountTable) (l : Loc) (q : Placement → Bool) :
    (c.placementsAt l).countP q =
      c.entries.countP (fun e => e.placement.any (fun p => p.at l && q p)) +
      c.foreign.countP (fun f => f.placement.at l && q f.placement) := by
  have hany : ∀ o : Option Placement,
      (o.map (fun p => q p && p.at l)).getD false = o.any (fun p => p.at l && q p) := by
    intro o
    cases o with
    | none => rfl
    | some p => exact Bool.and_comm _ _
  simp only [CountTable.placementsAt, List.countP_filter, List.countP_append, List.countP_filterMap,
    List.countP_map, hany, Function.comp_def, Bool.and_comm]

theorem CountTable.placementCount_eq (c : CountTable) (l : Loc) :
    c.placementCount l = c.listedCount l + c.foreignCount l := by
  have h := c.countP_placementsAt l (fun _ => true)
  simp only [List.countP_true, Bool.and_true] at h
  exact h

/-- A placement on a shelf has a position or is heard (R41). -/
theorem CountTable.placementCount_shelf (c : CountTable) (t : Nat) :
    c.placementCount (.shelf t) = c.positionedCount (.shelf t) + c.heardCount (.shelf t) := by
  have hheard : ∀ p : Placement, p.position.isNone = decide ¬ p.position.isSome = true := fun p => by
    cases p.position <;> rfl
  simp only [CountTable.placementCount, CountTable.positionedCount, CountTable.heardCount, Loc.isShelf, if_true,
    hheard]
  exact List.length_eq_countP_add_countP _

/-! ## The counts that are 0 (R42) -/

/-- An entry on a loose location is LOOSE, where it has a verdict (R35). -/
theorem CountTable.verdict_of_placedAt_loose {c : CountTable} {e : Entry} {i : Nat} {v : Verdict}
    (hat : e.placedAt (.loose i) = true) (hv : c.verdict e = some v) : v = .loose := by
  obtain ⟨p, hp, hl⟩ := Entry.placedAt_iff.mp hat
  rcases CountTable.verdict_cases hv with ⟨q, hq, rfl⟩ | ⟨hnone, -⟩
  · obtain rfl : p = q := Option.some.inj (hp.symm.trans hq)
    exact placedVerdict_loose hl
  · simp [hp] at hnone

/-- A MISSING entry is unplaced, and its expected shelf has been swept (R35, R36). -/
theorem CountTable.sweepCount_of_missing {c : CountTable} {e : Entry} (h : c.verdict e = some .missing) :
    1 ≤ c.sweepCount e.shelf := by
  rcases CountTable.verdict_cases h with ⟨p, -, hv⟩ | ⟨-, hv⟩
  · unfold placedVerdict at hv
    split at hv
    · cases hv
    · cases hv
    · split at hv
      · split at hv <;> cases hv
      all_goals cases hv
  · unfold unplacedVerdict at hv
    split at hv
    · cases hv
    · cases hv
    · split at hv
      · cases hv
      · cases hv
      · split at hv
        · assumption
        · cases hv
    · split at hv <;> cases hv

/-- Nothing is expected on a loose location, and what is placed there has no position (R42). -/
theorem State.LocationsSound.loose_counts {s : State} (h : s.LocationsSound) (i : Nat) :
    s.table.expectedCount (.loose i) = 0 ∧ s.table.positionedCount (.loose i) = 0 ∧
    s.table.heardCount (.loose i) = 0 ∧ s.table.missingCount (.loose i) = 0 ∧
    s.table.misorderedCount (.loose i) = 0 ∧ s.table.pendingCount (.loose i) = 0 := by
  have hverdict : ∀ v : Verdict, v ≠ .loose →
      s.table.entries.countP (fun e => e.placedAt (.loose i) && s.table.verdict e == some v) = 0 := by
    intro v hv
    rw [List.countP_eq_zero]
    intro e _ hboth
    rw [Bool.and_eq_true, beq_iff_eq] at hboth
    exact hv (CountTable.verdict_of_placedAt_loose hboth.1 hboth.2)
  refine ⟨?_, ?_, rfl, ?_, hverdict .misordered nofun, hverdict .pending nofun⟩
  · simp [CountTable.expectedCount, Entry.expectedAt]
  · refine List.countP_eq_zero.mpr (fun p hp hx => ?_)
    obtain ⟨hold, hl⟩ := CountTable.mem_placementsAt.mp hp
    obtain ⟨x, hx⟩ := Option.isSome_iff_exists.mp hx
    obtain ⟨-, -, -, hposition⟩ := h.placements p hold
    obtain ⟨hshelf, -⟩ := hposition x hx
    simp [hl, Loc.isShelf] at hshelf
  · simp [CountTable.missingCount, Entry.expectedAt]

/-- A shelf that has not been swept holds no placement, and misses nothing (R42). -/
theorem State.LocationsSound.unswept_counts {s : State} (h : s.LocationsSound) {t : Nat}
    (h0 : s.table.sweepCount t = 0) :
    s.table.placementCount (.shelf t) = 0 ∧ s.table.missingCount (.shelf t) = 0 := by
  constructor
  · refine List.length_eq_zero_iff.mpr (List.eq_nil_iff_forall_not_mem.mpr (fun p hp => ?_))
    obtain ⟨hold, hl⟩ := CountTable.mem_placementsAt.mp hp
    obtain ⟨-, hone, -⟩ := h.placements p hold
    rw [hl] at hone
    exact absurd h0 (Nat.one_le_iff_ne_zero.mp hone)
  · refine List.countP_eq_zero.mpr (fun e _ hboth => ?_)
    simp only [Entry.expectedAt, Bool.and_eq_true, beq_iff_eq] at hboth
    have hone := CountTable.sweepCount_of_missing hboth.2
    rw [hboth.1] at hone
    omega

/-- Settles O15: the lookups by the uniqueness of their keys, the counts over the two lists, and their zeros. -/
theorem locationCountsAddUp : Obligations.LocationCountsAddUp := by
  refine ⟨fun s hl => ⟨hl.byRank_eq_some, hl.byCode_eq_some, fun x => ⟨?_, fun hx => ?_⟩⟩, fun c l => ?_,
    CountTable.placementCount_eq, CountTable.placementCount_shelf, fun s i hs => hs.loose_counts i,
    fun s t hs => hs.unswept_counts⟩
  · rintro e he rfl
    exact CountTable.kindOf_of_mem hl.codes_nodup he
  · refine CountTable.kindOf_eq_foreign.mpr (fun hmem => ?_)
    obtain ⟨e, he, hcode⟩ := List.mem_map.mp hmem
    exact hx e he hcode
  · intro entriesWith foreignWith on placedOn expected has always positioned heard
    have hexpected : ∀ e : Entry, e.expectedAt l = expected e := by
      intro e
      rw [Bool.eq_iff_iff]
      cases l with
      | shelf t =>
        simp only [Entry.expectedAt, expected, beq_iff_eq, decide_eq_true_eq, Loc.shelf.injEq]
        exact eq_comm
      | loose i => simp [Entry.expectedAt, expected]
    have hplaced : Entry.placedAt l = fun e => placedOn e always := by
      funext e
      simp only [Entry.placedAt, placedOn, always, Bool.and_true]
      rfl
    have hhas : ∀ (e : Entry) (v : Verdict), (c.verdict e == some v) = has e v := fun _ _ => beq_eq_decide _ _
    have hcount : ∀ q : Placement → Bool, (c.placementsAt l).countP q =
        entriesWith (fun e => placedOn e q) + foreignWith (fun p => on p && q p) := by
      intro q
      rw [CountTable.countP_placementsAt, List.countP_eq_length_filter, List.countP_eq_length_filter]
      rfl
    have hpositioned : ∀ p : Placement, p.position.isSome = positioned p := fun p => by
      cases hx : p.position <;> simp [positioned, hx]
    have hheard : ∀ p : Placement, p.position.isNone = heard p := fun p => by
      cases hx : p.position <;> simp [heard, hx]
    have hlisted : c.listedCount l = entriesWith (fun e => placedOn e always) := by
      simp only [CountTable.listedCount, List.countP_eq_length_filter, hplaced, entriesWith]
    have hforeign : c.foreignCount l = foreignWith on := by
      simp only [CountTable.foreignCount, List.countP_eq_length_filter, foreignWith, Placement.at_eq, on]
    refine ⟨?_, ?_, hlisted, ?_, hforeign, fun t ht => ?_, ?_, ?_, ?_⟩
    · simp only [CountTable.expectedCount, List.countP_eq_length_filter, hexpected, entriesWith]
    · rw [CountTable.placementCount_eq, hlisted, hforeign]
    · simp only [CountTable.positionedCount, hpositioned]
      exact hcount positioned
    · have hshelf : l.isShelf = true := by rw [ht]; rfl
      simp only [CountTable.heardCount, hshelf, if_true, hheard]
      exact hcount heard
    · simp only [CountTable.missingCount, List.countP_eq_length_filter, hexpected, hhas, entriesWith]
    · simp only [CountTable.misorderedCount, List.countP_eq_length_filter, hplaced, hhas, entriesWith]
    · simp only [CountTable.pendingCount, List.countP_eq_length_filter, hplaced, hhas, entriesWith]

end Sys2Proof.Machine
end

section
/-! SUPPORT. The two queries that answer a page (R45, R46, R168). -/

namespace Sys2Proof.Machine

/-! ## Pages -/

theorem clamp_eq_max_min {lo hi : Nat} (h : lo ≤ hi) (n : Nat) : clamp lo hi n = max lo (min n hi) := by
  unfold clamp
  split_ifs <;> omega

theorem one_le_pageCount (count : Option Nat) : 1 ≤ pageCount count := by
  cases count with
  | none => decide
  | some n => exact (clamp_bounds n (by decide)).1

/-- A code above 10 names no verdict (R45). -/
theorem verdictOfCode_eq_none {n : Nat} (h : 10 < n) : verdictOfCode n = none :=
  List.getElem?_eq_none h

theorem exists_verdictOfCode {n : Nat} (h : n ≤ 10) : ∃ v, verdictOfCode n = some v :=
  ⟨_, List.getElem?_eq_getElem (Nat.lt_succ_of_le h)⟩

theorem verdictOfCode_code (v : Verdict) : verdictOfCode v.code = some v := by
  cases v <;> rfl

/-- The walk resumes behind a full page that ends before rank N, and nowhere else (R46). -/
theorem resumeRank_cases {n size : Nat} {page : List Entry} (hlen : page.length ≤ size) (h1 : 1 ≤ size) :
    (page.length = size ∧ ∃ e, page.getLast? = some e ∧ e.rank < n ∧ resumeRank n size page = e.rank + 1) ∨
    ((page.length < size ∨ ∃ e, page.getLast? = some e ∧ n ≤ e.rank) ∧ resumeRank n size page = 0) := by
  unfold resumeRank
  cases hlast : page.getLast? with
  | none =>
    have hnil : page.length = 0 := by rw [List.getLast?_eq_none_iff.mp hlast, List.length_nil]
    exact .inr ⟨.inl (by omega), rfl⟩
  | some e =>
    dsimp only
    split
    next h => exact .inl ⟨h.1, e, rfl, h.2, rfl⟩
    next h =>
      refine .inr ⟨?_, rfl⟩
      by_cases hfull : page.length = size
      · exact .inr ⟨e, rfl, Nat.le_of_not_lt (fun hlt => h ⟨hfull, hlt⟩)⟩
      · exact .inl (by omega)

theorem CountTable.verdictPage_eq (c : CountTable) (v : Verdict) (start size : Nat) :
    c.verdictPage v start size =
      (c.entries.filter (fun e => decide (start ≤ e.rank) && decide (c.verdict e = some v))).take size := by
  simp only [CountTable.verdictPage, beq_eq_decide]

/-! ## QV (R45, R46) -/

/-- QV: its checks in order, and the page of its reply. -/
theorem execVerdictQuery_cases {s : State} {code start : Nat} {count : Option Nat} {d : Terminator}
    (h : CanTake s (.qv code start count) d) :
    (verdictOfCode code = none ∨ start < 1 → execVerdictQuery s = .next (s.replied .QV .RG [])) ∧
    ∀ v, verdictOfCode code = some v → ¬ start < 1 →
      (s.table.run.hasVerdicts = false → execVerdictQuery s = .next (s.replied .QV .SA [])) ∧
      (s.table.run.hasVerdicts = true → ∀ n, s.table.items = some n →
        let page := s.table.verdictPage v start (pageCount count)
        execVerdictQuery s = .next (s.accepted s .QV d
          ([.num page.length, .num (resumeRank n (pageCount count) page)] ++ page.flatMap Entry.verdictFields))) := by
  unfold execVerdictQuery
  refine ⟨fun hout => takeRequest_refused h ?_, fun v hv hstart =>
    ⟨fun hr => takeRequest_refused h ?_, fun hr n hn => takeRequest_effective h ?_⟩⟩
  · cases hv : verdictOfCode code with
    | none => simp only [decideVerdictQuery, hv]
    | some v =>
      have hstart : start < 1 := hout.resolve_left (by simp [hv])
      simp only [decideVerdictQuery, hv, if_pos hstart]
  · simp only [decideVerdictQuery, hv, if_neg hstart, State.freeSlot_table, hr, Bool.not_false, if_true]
  · simp only [decideVerdictQuery, hv, if_neg hstart, State.freeSlot_table, hr, Bool.not_true, Bool.false_eq_true,
      if_false, hn, Option.getD_some]
    rfl

/-! ## QF (R168) -/

/-- QF: its checks in order, and the page of its reply. -/
theorem execForeignListQuery_cases {s : State} {start : Nat} {count : Option Nat} {d : Terminator}
    (h : CanTake s (.qf start count) d) :
    (start = 0 → execForeignListQuery s = .next (s.replied .QF .RG [])) ∧
    (start ≠ 0 → s.table.run = .empty → execForeignListQuery s = .next (s.replied .QF .SA [])) ∧
    (start ≠ 0 → s.table.run ≠ .empty →
      let page := (s.table.foreign.drop (start - 1)).take (pageCount count)
      execForeignListQuery s = .next (s.accepted s .QF d
        ([.num page.length, .num (resumeIndex s.table.foreign.length start (pageCount count))] ++
          page.flatMap ForeignEntry.fields))) := by
  unfold execForeignListQuery
  refine ⟨fun h0 => takeRequest_refused h ?_, fun h0 hr => takeRequest_refused h ?_, fun h0 hr =>
    takeRequest_effective h ?_⟩
  · simp only [decideForeignListQuery, if_pos h0]
  · simp only [decideForeignListQuery, if_neg h0, State.freeSlot_table, hr, if_true]
  · simp only [decideForeignListQuery, if_neg h0, State.freeSlot_table, hr, if_false]
    rfl

/-- Settles O37: both queries' checks, their pages, and where their walks resume. -/
theorem pagedQueries : Obligations.PagedQueries := by
  refine ⟨fun s code start count d h => ?_, fun s start count d h => ?_⟩
  · intro size sealed
    obtain ⟨hRG, hrest⟩ := execVerdictQuery_cases h
    have hsize : size = pageCount count := by
      cases count with
      | none => rfl
      | some k => exact (clamp_eq_max_min (by decide) k).symm
    refine ⟨fun hout => hRG ?_, fun hcode h1 hn => ?_, fun v n hv h1 hsealed hitems => ?_⟩
    · exact hout.imp verdictOfCode_eq_none (fun h0 => by omega)
    · obtain ⟨v, hv⟩ := exists_verdictOfCode hcode
      exact (hrest v hv (by omega)).1 (Bool.eq_false_iff.mpr (fun hr => hn (RunState.hasVerdicts_eq_true.mp hr)))
    · subst hv
      intro page
      have hpage : page = s.table.verdictPage v start (pageCount count) := by
        rw [CountTable.verdictPage_eq, ← hsize]
      refine ⟨resumeRank n size page, resumeRank_cases (List.length_take_le _ _) (hsize ▸ one_le_pageCount count), ?_⟩
      rw [hpage, hsize]
      exact (hrest v (verdictOfCode_code v) (by omega)).2 (RunState.hasVerdicts_eq_true.mpr hsealed) n hitems
  · intro size page resume
    obtain ⟨hRG, hSA, hOK⟩ := execForeignListQuery_cases h
    have hsize : size = pageCount count := by
      cases count with
      | none => rfl
      | some k => exact (clamp_eq_max_min (by decide) k).symm
    refine ⟨hRG, fun h1 => hSA (by omega), fun h1 hr => ?_⟩
    have hpage : page = (s.table.foreign.drop (start - 1)).take (pageCount count) := by rw [← hsize]
    have hresume : resume = resumeIndex s.table.foreign.length start (pageCount count) := by
      rw [← hsize]
      exact if_congr (by omega) rfl rfl
    rw [hpage, hresume]
    exact hOK (by omega) hr

end Sys2Proof.Machine
end

section
/-! SUPPORT. The Read Port: the form check of a delivered read and its fate, and the encoder's count (R49 to R53,
R56 to R58, R72). -/

namespace Sys2Proof.Machine

/-! ## The form check (R49) -/

theorem antennaOf_eq_some_iff {m : AntennaMark} {a : Antenna} :
    antennaOf m = some a ↔ (a = .front ∧ m = .front) ∨ (a = .back ∧ m = .back) := by
  cases m <;> cases a <;> decide

/-- The form check passes a read that is undamaged and carries a nonzero code, a strength and one of the two
antennas. -/
theorem soundRead_eq_some_iff {r : DeliveredRead} {code : ItemCode} {strength : BitVec 8} {antenna : Antenna} :
    soundRead r = some (code, strength, antenna) ↔
      r.damaged = false ∧ r.code = some code ∧ code ≠ 0 ∧ r.strength = some strength ∧
        ((antenna = .front ∧ r.antenna = some .front) ∨ (antenna = .back ∧ r.antenna = some .back)) := by
  have hantenna : r.antenna.bind antennaOf = some antenna ↔
      (antenna = .front ∧ r.antenna = some .front) ∨ (antenna = .back ∧ r.antenna = some .back) := by
    cases r.antenna with
    | none => simp
    | some m => simpa using antennaOf_eq_some_iff
  rw [← hantenna]
  unfold soundRead
  split
  next hd hc hs ha =>
    simp only [hd, hc, hs, ha, Option.some.injEq, true_and]
    split
    next h0 =>
      simp only [reduceCtorEq, false_iff]
      rintro ⟨rfl, hne, -⟩
      exact hne h0
    next h0 =>
      simp only [Option.some.injEq, Prod.mk.injEq]
      exact ⟨fun ⟨h1, h2, h3⟩ => ⟨h1, h1 ▸ h0, h2, h3⟩, fun ⟨h1, _, h2, h3⟩ => ⟨h1, h2, h3⟩⟩
  next hno =>
    simp only [reduceCtorEq, false_iff]
    rintro ⟨hd, hc, -, hs, ha⟩
    exact hno _ _ _ hd hc hs ha

/-! ## The fate of a read (R50 to R53) -/

/-- An AWAKE receiver delivers the read. -/
theorem exec_tagRead_awake {s : State} (h : s.port.dormancy = .awake) (r : DeliveredRead) :
    exec (.tagRead r) s = .next (s.arriveRead r).settled := by
  change execTagRead r s = _
  simp only [execTagRead, h]
  rfl

theorem State.arriveRead_malformed (s : State) {r : DeliveredRead} (h : soundRead r = none) :
    s.arriveRead r = { s with port := s.port.drop } := by
  simp only [State.arriveRead, h]

theorem State.arriveRead_discarded {s : State} (hp : s.sweep.phase ≠ .opened) {r : DeliveredRead}
    {x : ItemCode × BitVec 8 × Antenna} (h : soundRead r = some x) : s.arriveRead r = s := by
  simp only [State.arriveRead, h]
  split
  next ho _ => exact absurd ho hp
  · rfl

/-- In an open sweep a sound read is accepted below 32 waiting and dropped otherwise. -/
theorem State.arriveRead_opened {s : State} (hp : s.sweep.phase = .opened) {target : Loc}
    (ht : s.sweep.record.target = some target) {r : DeliveredRead} {code : ItemCode} {strength : BitVec 8}
    {antenna : Antenna} (h : soundRead r = some (code, strength, antenna)) :
    s.arriveRead r =
      if s.port.queue.length < 32 then s.acceptRead (s.stamp target code strength antenna) else s.dropAtQueue := by
  simp only [State.arriveRead, h, hp, ht]
  rfl

/-- The copy changes the buffer, and the link where WATERMARK rises (R144, R150). -/
theorem State.offerCopy_eq (s : State) (r : StampedRead) :
    let e := s.evidence.capture r
    s.offerCopy r =
      { s with
        evidence := e
        link :=
          if s.evidence.records.length ≤ s.evidence.watermark ∧ e.watermark < e.records.length then
            s.link.queueReport e.evw
          else s.link } := by
  intro e
  have hrises : (!s.evidence.aboveWatermark && e.aboveWatermark) = true ↔
      s.evidence.records.length ≤ s.evidence.watermark ∧ e.watermark < e.records.length := by
    simp [EvidenceBuffer.aboveWatermark]
  unfold State.offerCopy
  by_cases h : s.evidence.records.length ≤ s.evidence.watermark ∧ e.watermark < e.records.length
  · rw [if_pos h, if_pos (hrises.mpr h)]
    rfl
  · rw [if_neg h, if_neg (mt hrises.mp h)]

/-- Settles O47: the form check splits the malformed from the sound, and the sweep and the queue's room decide
the fate of a sound read. -/
theorem tagReadArrives : Obligations.TagReadArrives := by
  intro s r hawake drops record sound
  have hsound : ∀ code strength antenna,
      sound code strength antenna ↔ soundRead r = some (code, strength, antenna) :=
    fun _ _ _ => soundRead_eq_some_iff.symm
  rw [exec_tagRead_awake hawake]
  refine ⟨fun hmalformed => ?_, fun code strength antenna hr => ⟨fun hp => ?_, fun target hp ht => ?_⟩⟩
  · have hnone : soundRead r = none := Option.eq_none_iff_forall_ne_some.mpr
      fun ⟨code, strength, antenna⟩ h => hmalformed ⟨code, strength, antenna, (hsound _ _ _).mpr h⟩
    rw [s.arriveRead_malformed hnone]
    rfl
  · rw [State.arriveRead_discarded hp ((hsound _ _ _).mp hr)]
  · rw [State.arriveRead_opened hp ht ((hsound _ _ _).mp hr)]
    refine ⟨fun hroom => ?_, fun hfull => ?_⟩
    · rw [if_pos hroom, State.acceptRead, State.offerCopy_eq]
      rfl
    · rw [if_neg (by omega)]
      rfl

/-! ## The encoder (R56 to R58, R72) -/

theorem movePosition_eq (d : Direction) (pMax position : Nat) :
    movePosition d pMax position =
      if d = .forward then (if position < pMax then position + 1 else pMax) else position - 1 := by
  cases d <;> rfl

theorem clampsAtMax_eq (d : Direction) (pMax position : Nat) :
    clampsAtMax d pMax position = decide (d = .forward ∧ pMax ≤ position) := by
  cases d <;> simp [clampsAtMax]

/-- The counter moved or clamped on a shelf of the geometry, before the Sweep Unit takes the count. -/
def State.countPosition (s : State) (d : Direction) (g : Geometry) : State :=
  { s with
    port := { s.port with position :=
      if d = .forward then (if s.port.position < g.width + 150 then s.port.position + 1 else g.width + 150)
      else s.port.position - 1 }
    sweep := { s.sweep with record := { s.sweep.record with facts := { s.sweep.record.facts with
      overtravel := s.sweep.record.facts.overtravel ||
        decide (d = .forward ∧ g.width + 150 ≤ s.port.position) } } } }

/-- A count moves the counter, and then the Sweep Unit takes it (R56, R57). -/
theorem State.moveCounter_eq {s : State} {g : Geometry} (hg : s.table.geometry = some g) (d : Direction)
    (target : Loc) : s.moveCounter d target = (s.countPosition d g).deliverCount target := by
  have hmax : s.table.pMax.getD 0 = g.width + 150 := by
    rw [CountTable.pMax, hg]
    rfl
  simp only [State.moveCounter, hmax, movePosition_eq, clampsAtMax_eq]
  rfl

/-- Away from the end of a rate window the count restarts the idle timer alone (R72, R73). -/
theorem State.deliverCount_within {s : State}
    (h : ∀ w, s.sweep.rateWindow = some w → s.port.position ≠ w.start + 100) (target : Loc) :
    s.deliverCount target = s.restartIdle := by
  unfold State.deliverCount
  dsimp only
  split
  · rfl
  next w hw => exact if_neg (fun hcloses => h w hw (beq_iff_eq.mp hcloses))

/-- At the end of a rate window the next one opens, and RATE_LO is evaluated with the closed one's count (R72,
R131). -/
theorem State.deliverCount_closes {s : State} {w : RateWindow} (hw : s.sweep.rateWindow = some w)
    (hend : s.port.position = w.start + 100) (target : Loc) :
    s.deliverCount target =
      State.evaluate .rate target s.sweep.record.number [(.rateLo, w.count)]
        { s.restartIdle with sweep :=
          { s.restartIdle.sweep with rateWindow := some { start := w.start + 100, count := 0 } } } := by
  unfold State.deliverCount
  simp only [State.restartIdle_sweep, State.restartIdle_port, hw]
  exact if_pos (beq_iff_eq.mpr hend)

theorem exec_encoderCount_ignored {s : State} (hp : s.sweep.phase ≠ .opened) (d : Direction) :
    exec (.encoderCount d) s = .next s := by
  change execEncoderCount d s = _
  unfold execEncoderCount
  split
  next ho _ => exact absurd ho hp
  next ho _ => exact absurd ho hp
  · rfl

theorem exec_encoderCount_loose {s : State} (hp : s.sweep.phase = .opened) {i : Nat}
    (ht : s.sweep.record.target = some (.loose i)) (d : Direction) :
    exec (.encoderCount d) s = .next s.restartIdle.settled := by
  change execEncoderCount d s = _
  simp only [execEncoderCount, hp, ht]
  rfl

theorem exec_encoderCount_shelf {s : State} (hp : s.sweep.phase = .opened) {t : Nat}
    (ht : s.sweep.record.target = some (.shelf t)) {g : Geometry} (hg : s.table.geometry = some g)
    (d : Direction) :
    exec (.encoderCount d) s = .next ((s.countPosition d g).deliverCount (.shelf t)).settled := by
  change execEncoderCount d s = _
  simp only [execEncoderCount, hp, ht, State.moveCounter_eq hg]
  rfl

/-- Settles O48: the sweep's phase and target decide what a count is, and on a shelf the rate window whether the
count closes it. -/
theorem encoderCountMovesTheCounter : Obligations.EncoderCountMovesTheCounter := by
  intro s dir timer record
  refine ⟨fun hp => exec_encoderCount_ignored hp dir, fun i hp ht => exec_encoderCount_loose hp ht dir,
    fun t g hp ht hg => ?_⟩
  rw [exec_encoderCount_shelf hp ht hg]
  intro before after clamped moved
  have hwithin (h : ∀ w, s.sweep.rateWindow = some w → after ≠ w.start + 100) :
      (s.countPosition dir g).deliverCount (.shelf t) = moved := State.deliverCount_within h _
  refine ⟨fun hnone => ?_, fun w hw => ⟨fun haway => ?_, fun hend => ?_⟩⟩
  · rw [hwithin (by simp [hnone])]
  · rw [hwithin (by simpa [hw] using haway)]
  · intro windowOpened
    rw [State.deliverCount_closes (s := s.countPosition dir g) hw hend]
    rfl

end Sys2Proof.Machine
end

section
/-! SUPPORT. Opening, ending and abandoning a sweep, and dormancy (R61, R66 to R77, R81 to R84). -/

namespace Sys2Proof.Machine

/-! ## OS (R67) -/

/-- The letter of a mode names it, and no other letter names one. -/
theorem modeOfLetter_of_form {n : Nat} (h : n = 78 ∨ n = 82) :
    modeOfLetter n = some (if n = 78 then .new else .recount) := by
  rcases h with rfl | rfl <;> rfl

theorem modeOfLetter_eq_none {n : Nat} (h : ¬ (n = 78 ∨ n = 82)) : modeOfLetter n = none := by
  obtain ⟨hn, hr⟩ := not_or.mp h
  exact (if_neg hn).trans (if_neg hr)

/-- A mode is written as its letter. -/
theorem Field.mode_of_form {n : Nat} (h : n = 78 ∨ n = 82) :
    Field.mode (if n = 78 then .new else .recount) = .letter (BitVec.ofNat 8 n) := by
  rcases h with rfl | rfl <;> rfl

section
variable {c : CountTable} {n : Nat}

/-- A number that names a location is that of a shelf, or that of one of L1 to L8 (R154). -/
theorem CountTable.locOfNumber_of_isLoc (h : (1 ≤ n ∧ n ≤ c.shelfCount) ∨ (129 ≤ n ∧ n ≤ 136)) :
    c.locOfNumber n = some (if n ≤ c.shelfCount then .shelf n else .loose (n - 128)) := by
  unfold CountTable.locOfNumber
  by_cases hs : n ≤ c.shelfCount
  · rw [if_pos (CountTable.isShelf_iff.mpr ⟨by omega, hs⟩), if_pos hs]
  · have hn : c.isShelf n ≠ true := fun hn => hs (CountTable.isShelf_iff.mp hn).2
    rw [if_neg hn, if_neg hs, if_pos (by simp; omega)]

theorem CountTable.locOfNumber_eq_none (h : ¬ ((1 ≤ n ∧ n ≤ c.shelfCount) ∨ (129 ≤ n ∧ n ≤ 136))) :
    c.locOfNumber n = none := by
  obtain ⟨hs, hl⟩ := not_or.mp h
  unfold CountTable.locOfNumber
  rw [if_neg (CountTable.isShelf_iff.not.mpr hs), if_neg (by simpa using hl)]

/-- A location is written by the number that names it (R154). -/
theorem Field.loc_of_isLoc {S : Nat} (h : (1 ≤ n ∧ n ≤ S) ∨ (129 ≤ n ∧ n ≤ 136)) :
    Field.loc (if n ≤ S then .shelf n else .loose (n - 128)) = .num n := by
  split
  · rfl
  · exact congrArg Field.num (show 128 + (n - 128) = n by omega)

end

/-- A sweep opens once OS's five checks have passed (R67). -/
theorem decideOpenRequest_accepts {s : State} {target mode : Nat} (hf : mode = 78 ∨ mode = 82)
    (hs : s.panel.switch = .remote) (hr : s.table.run = .opened) (hp : s.sweep.phase = .idle)
    (hl : (1 ≤ target ∧ target ≤ s.table.shelfCount) ∨ (129 ≤ target ∧ target ≤ 136)) :
    decideOpenRequest target mode s =
      .accept (s.openSweep (if target ≤ s.table.shelfCount then .shelf target else .loose (target - 128))
          (if mode = 78 then .new else .recount))
        [.num (nextSweepNumber s.table.sweepNumber), .num target, .letter (BitVec.ofNat 8 mode)] := by
  unfold decideOpenRequest
  rw [modeOfLetter_of_form hf, CountTable.locOfNumber_of_isLoc hl]
  simp only [hs, hr, hp, ne_eq, not_true_eq_false, if_false, Field.loc_of_isLoc hl, Field.mode_of_form hf]

/-! ## Location records and the sweep that opens (R11, R66, R69) -/

theorem CountTable.setRecord_eq (c : CountTable) (l : Loc) (r : LocRecord) :
    c.setRecord l r = { c with shelves := (c.setRecord l r).shelves, loose := (c.setRecord l r).loose } := by
  rcases l with (_ | t) | (_ | i) <;> rfl

/-- RATE_LO and BLEED_HI are false in a sweep that opens, and the rest of the conditions stands (R69). -/
theorem State.openSweep_conds_get (s : State) (l : Loc) (m : SweepMode) (x : CondCode) :
    (s.openSweep l m).monitor.conds.get x =
      if x = .rateLo ∨ x = .bleedHi then { s.monitor.conds.get x with state := false }
      else s.monitor.conds.get x := by
  change ((s.monitor.conds.setState .rateLo false).setState .bleedHi false).get x = _
  cases x <;> rfl

/-- Settles O39: OS's checks one by one, the two lists of records, and the effect of an opening block by
block. -/
theorem openRequestOpensASweep : Obligations.OpenRequestOpensASweep := by
  refine ⟨fun s target mode d h => ?_, fun s l r hcap hl => ?_, fun c i r => ?_, fun s l m => ?_⟩
  · change (_ → execOpenRequest s = _) ∧ (_ → _ → execOpenRequest s = _) ∧
      (_ → _ → _ → execOpenRequest s = _) ∧ (_ → _ → _ → _ → execOpenRequest s = _) ∧
      (_ → _ → _ → _ → (_ → execOpenRequest s = _) ∧ (_ → execOpenRequest s = _))
    unfold execOpenRequest
    refine ⟨fun hf => ?_, fun hf hs => ?_, fun hf hs hr => ?_, fun hf hs hr hp => ?_,
      fun hf hs (hr : s.table.run = .opened) hp => ⟨fun hl => ?_, fun hl => ?_⟩⟩
    · exact takeRequest_refused h (by simp [decideOpenRequest, modeOfLetter_eq_none hf])
    · exact takeRequest_refused h (by simp [decideOpenRequest, modeOfLetter_of_form hf, hs])
    · exact takeRequest_refused h (by simp [decideOpenRequest, modeOfLetter_of_form hf, hs, hr])
    · exact takeRequest_refused h (by simp [decideOpenRequest, modeOfLetter_of_form hf, hs, hr, hp])
    · exact takeRequest_refused h (by
        simp [decideOpenRequest, modeOfLetter_of_form hf, hs, hr, hp, CountTable.locOfNumber_eq_none hl])
    · exact takeRequest_effective h
        (congrArg some (decideOpenRequest_accepts (s := s.freeSlot) hf hs hr hp hl))
  · exact ⟨CountTable.recordAt_setRecord_same (hcap.table.hasRecord hl) r,
      fun k hk => s.table.recordAt_setRecord_other hk r, s.table.setRecord_eq l r⟩
  · have hread {xs : List LocRecord} (h : xs[i]? = some r) : xs.getD i LocRecord.cleared = r := by simp [h]
    exact ⟨fun h => ⟨hread h, congrArg LocRecord.sweepCount (hread h)⟩, hread⟩
  · exact ⟨rfl, s.openSweep_conds_get l m⟩

/-! ## ES and DO (R61, R75 to R77) -/

/-- Settles O40: the branches of the checks of ES and of DO. -/
theorem endAndDormancyRequests : Obligations.EndAndDormancyRequests := by
  refine ⟨fun s d h => ?_, fun s d h => ?_⟩
  · change (_ → execEndRequest s = _) ∧ (_ → _ → execEndRequest s = _) ∧ (_ → _ → execEndRequest s = _)
    unfold execEndRequest
    refine ⟨fun hs => ?_, fun hs hp => ?_, fun hs hp => ?_⟩
    · exact takeRequest_refused h (by simp [decideEndRequest, hs])
    · exact takeRequest_refused h (by simp [decideEndRequest, hs, hp])
    · refine takeRequest_effective h ?_
      simp only [decideEndRequest, State.freeSlot_panel, hs, State.freeSlot_sweep, hp, ne_eq,
        not_true_eq_false, if_false]
      rfl
  · change (_ → execDormancyRequest s = _) ∧ (_ → execDormancyRequest s = _)
    unfold execDormancyRequest
    refine ⟨fun hp => ?_, fun hp => ?_⟩
    · exact takeRequest_refused h (by simp [decideDormancyRequest, hp])
    · refine takeRequest_effective h ?_
      simp only [decideDormancyRequest, State.freeSlot_sweep, hp, ne_eq, not_true_eq_false, if_false]
      rfl

/-! ## AS and the idle expiry (R74, R81 to R84) -/

/-- A sweep in OPEN or in FINALIZE is abandoned by AS (R82). -/
theorem decideAbandonRequest_accepts {s : State} (h : s.sweep.phase = .opened ∨ s.sweep.phase = .finalize) :
    decideAbandonRequest s =
      .accept (s.abandonSweep.report (s.sweep.swa .host)) [.num s.sweep.record.number] := by
  unfold decideAbandonRequest
  rcases h with h | h <;> rw [h]

theorem decideAbandonRequest_busy {s : State} (h : s.sweep.phase = .commit ∨ s.sweep.phase = .order) :
    decideAbandonRequest s = .refuse .BY [.num s.sweep.phase.code] := by
  unfold decideAbandonRequest
  rcases h with h | h <;> rw [h]

theorem decideAbandonRequest_idle {s : State} (h : s.sweep.phase = .idle) :
    decideAbandonRequest s = .refuse .SA [.num 0] := by
  unfold decideAbandonRequest
  rw [h]
  rfl

/-- A report queued frees no slot and fills none: it may be queued before or after the slot is freed. -/
theorem LinkUnit.queueReport_freed (l : LinkUnit) (r : Report) :
    ({ l with slot := none } : LinkUnit).queueReport r = { l.queueReport r with slot := none } := by
  unfold LinkUnit.queueReport
  dsimp only
  split <;> rfl

/-- An abandonment entry by entry: the marks of the sighted ranks are cleared, and SET_DURING becomes SET on the
target shelf (R81). -/
theorem Entry.abandoned_eq (l : Loc) (ranks : List Nat) (e : Entry) :
    Entry.settleReturned l (e.clearInSweep ranks) =
      { e with
        inSweep := e.inSweep && decide (e.rank ∉ ranks)
        returned := if l = .shelf e.shelf ∧ e.returned = .setDuring then .set else e.returned } := by
  rw [Entry.clearInSweep_eq, Entry.settleReturned_eq]
  have hmark : (if e.rank ∈ ranks then false else e.inSweep) = (e.inSweep && decide (e.rank ∉ ranks)) := by
    split <;> simp_all
  have hexpected : e.expectedAt l = decide (l = .shelf e.shelf) := by
    cases l <;> simp [Entry.expectedAt, beq_eq_decide, eq_comm]
  rw [hmark]
  change ({ e with
    inSweep := e.inSweep && decide (e.rank ∉ ranks)
    returned := if e.expectedAt l && e.returned == .setDuring then .set else e.returned } : Entry) = _
  simp [hexpected]

/-- Settles O41: the branches of AS, the one state in which the timer expires, and the abandonment entry by
entry. -/
theorem abandonmentOfASweep : Obligations.AbandonmentOfASweep := by
  refine ⟨fun s d h => ?_, fun s hp => ?_, fun s l ht => ⟨?_, fun e _ => mem_listedRanks⟩⟩
  · change (_ → execAbandonRequest s = _) ∧ (_ → execAbandonRequest s = _) ∧ (_ → execAbandonRequest s = _)
    unfold execAbandonRequest
    refine ⟨fun hp => ?_, fun hp => ?_, fun hp => ?_⟩
    · exact takeRequest_refused h (congrArg some (decideAbandonRequest_idle (s := s.freeSlot) hp))
    · exact takeRequest_refused h (congrArg some (decideAbandonRequest_busy (s := s.freeSlot) hp))
    · refine takeRequest_effective h ?_
      rw [decideAbandonRequest_accepts (s := s.freeSlot) hp]
      simp only [State.report, State.freeSlot, State.abandonSweep, LinkUnit.queueReport_freed]
      rfl
  · change execIdleExpiry s = _
    unfold execIdleExpiry
    rw [hp]
    simp only [SweepUnit.swa, hp]
    rfl
  · simp only [State.abandonSweep, ht, CountTable.abandon, Entry.abandoned_eq]
    rfl

end Sys2Proof.Machine
end

section
/-! SUPPORT. The Sweep Unit's own work: the fold of a read, and FINALIZE's hand-off (R54, R60, R70, R71, R77,
R78, R89 to R91). -/

namespace Sys2Proof.Machine

/-! ## The fold (R60, R70, R71) -/

/-- The head of the read queue is removed and folded, in OPEN and in FINALIZE (R54, R71). -/
theorem exec_readFold {s u : State} {r : StampedRead} {rest : List StampedRead} (hq : s.port.queue = r :: rest)
    (hp : s.sweep.phase = .opened ∨ s.sweep.phase = .finalize)
    (hu : ({ s with port := { s.port with queue := rest } } : State).foldRead r = u) :
    exec .readFold s = .next u.settled := by
  have hf : s.sweep.phase.folds = true := by rcases hp with hp | hp <;> rw [hp] <;> rfl
  subst hu
  change execReadFold s = _
  unfold execReadFold
  rw [hf, hq]
  rfl

/-- The weight of a read is its strength above the floor (R60). -/
theorem readWeight_eq (floor : Nat) (strength : BitVec 8) :
    readWeight floor strength = if floor < strength.toNat then strength.toNat - floor else 0 := by
  unfold readWeight
  split <;> omega

theorem isSighted_iff {k : ItemCode} {xs : List Sighting} : isSighted k xs = true ↔ ∃ x ∈ xs, x.code = k := by
  simp [isSighted]

theorem isSighted_eq_false {k : ItemCode} {xs : List Sighting} :
    isSighted k xs = false ↔ ∀ x ∈ xs, x.code ≠ k := by
  simp [isSighted]

section
variable {s : State} {r : StampedRead} {a : Additions}

/-- A read of a sighted code is folded into its sighting (R71). -/
theorem State.foldRead_sighted
    (ha : a = additionsOf r.antenna (readWeight s.link.settings.floor r.strength) r.position)
    (h : isSighted r.code s.sweep.sightings = true) :
    let into := s.sweep.sightings.map (fun x => if x.code = r.code then x.fold a else x)
    s.foldRead r =
      { s with sweep := { s.sweep with sightings := into, record := s.sweep.record.noteFrozen into } } := by
  subst ha
  simp only [State.foldRead, h, if_true, foldInto, beq_iff_eq]

/-- A read of a new code makes a sighting while the table has room, and marks the entry of the code (R71). -/
theorem State.foldRead_new
    (ha : a = additionsOf r.antenna (readWeight s.link.settings.floor r.strength) r.position)
    (h : isSighted r.code s.sweep.sightings = false)
    (hroom : s.sweep.sightings.length < 192) :
    let grown := s.sweep.sightings ++ [(newSighting r.code (s.table.kindOf r.code)).fold a]
    s.foldRead r =
      { s with
        sweep := { s.sweep with sightings := grown, record := s.sweep.record.noteFrozen grown }
        table := { s.table with
          entries := s.table.entries.map (fun e => if e.code = r.code then { e with inSweep := true } else e) } } := by
  subst ha
  simp only [State.foldRead, h, Config.sightingTableSize, hroom, if_true, CountTable.markSighted, beq_iff_eq,
    Bool.false_eq_true, if_false]

/-- At the full table a read of a new code is dropped (R71). -/
theorem State.foldRead_dropped (h : isSighted r.code s.sweep.sightings = false)
    (hfull : 192 ≤ s.sweep.sightings.length) :
    s.foldRead r = { s with sweep := { s.sweep with record := s.sweep.record.dropNewCode } } := by
  simp only [State.foldRead, h, Config.sightingTableSize, Nat.not_lt.mpr hfull, Bool.false_eq_true, if_false]

end

/-- Settles O52: the three cases of a fold. -/
theorem readFoldTakesTheHead : Obligations.ReadFoldTakesTheHead := by
  intro s r rest hq hp strength floor weight a record table noted kind fresh port into grown marked dropped
  have ha : a = additionsOf r.antenna (readWeight floor r.strength) r.position := by rw [readWeight_eq]
  let taken : State := { s with port := port }
  refine ⟨fun h => ?_, fun h hroom => ?_, fun h hfull => ?_⟩
  · exact exec_readFold hq hp (State.foldRead_sighted (s := taken) ha (isSighted_iff.mpr h))
  · exact exec_readFold hq hp (State.foldRead_new (s := taken) ha (isSighted_eq_false.mpr h) hroom)
  · exact exec_readFold hq hp (State.foldRead_dropped (s := taken) (isSighted_eq_false.mpr h) hfull)

/-! ## The hand-off (R77, R78, R89 to R91) -/

theorem exec_handOff {s : State} {target : Loc} {mode : SweepMode} {bleed : Nat}
    (hp : s.sweep.phase = .finalize) (hq : s.port.queue = []) (ht : s.sweep.record.target = some target)
    (hm : s.sweep.record.mode = some mode) (hb : s.sweep.record.bleed = some bleed) :
    exec .handOff s = .next (s.handOff target mode bleed).settled := by
  change execHandOff s = _
  unfold execHandOff
  rcases hr : s.sweep.record with ⟨number, _, _, facts, sighted, outcomes, _⟩
  simp only [hr] at ht hm hb
  subst ht hm hb
  rw [hp, hq]
  rfl

/-- A sighting is not across-aisle while 8 W_B is at most R W_F (R89). -/
theorem Sighting.not_acrossAisle (bleed : Nat) (x : Sighting) :
    (!x.acrossAisle bleed) = decide (8 * x.back ≤ bleed * x.front) := by
  simp [Sighting.acrossAisle, ← decide_not]

/-- The across-aisle sightings are those that give no offer (R78, R89). -/
theorem countP_acrossAisle (bleed : Nat) (xs : List Sighting) :
    xs.countP (Sighting.acrossAisle bleed) =
      xs.length - (xs.filter (fun x => decide (8 * x.back ≤ bleed * x.front))).length := by
  have hsum := xs.length_eq_countP_add_countP (Sighting.acrossAisle bleed)
  have hkept : xs.countP (fun x => ¬ x.acrossAisle bleed = true) =
      (xs.filter (fun x => decide (8 * x.back ≤ bleed * x.front))).length := by
    rw [← List.countP_eq_length_filter]
    exact List.countP_congr (fun x _ => by simp [Sighting.acrossAisle])
  omega

/-- A position is given on a shelf to a sighting with front weight (R90). -/
theorem Sighting.position_eq (target : Loc) (pMax : Nat) (x : Sighting) :
    x.position target pMax =
      if target.isShelf = true ∧ 1 ≤ x.front then
        some (if pMax < (x.moment + x.front / 2) / x.front then pMax else (x.moment + x.front / 2) / x.front)
      else none := by
  have hmin : x.estimate pMax =
      if pMax < (x.moment + x.front / 2) / x.front then pMax else (x.moment + x.front / 2) / x.front := by
    unfold Sighting.estimate
    split <;> omega
  simp [Sighting.position, hmin, Nat.succ_le_iff]

/-- An offer has a strength with a position (R91). -/
theorem Sighting.offer_eq (target : Loc) (pMax : Nat) (x : Sighting) :
    x.offer target pMax =
      { code := x.code, kind := x.kind, reads := x.reads
        position := if target.isShelf = true ∧ 1 ≤ x.front then
            some (if pMax < (x.moment + x.front / 2) / x.front then pMax
              else (x.moment + x.front / 2) / x.front)
          else none
        strength := if target.isShelf = true ∧ 1 ≤ x.front then x.front * 2 ^ x.scale else 0 } := by
  unfold Sighting.offer
  rw [Sighting.position_eq]
  by_cases h : target.isShelf = true ∧ 1 ≤ x.front
  · simp only [if_pos h, Option.isSome_some, if_true]
  · simp only [if_neg h, Option.isSome_none, Bool.false_eq_true, if_false]

/-- Settles O53: the hand-off's commit, offer by offer. -/
theorem handOffDeliversTheOffers : Obligations.HandOffDeliversTheOffers := by
  intro s target mode bleed pMax hp hq ht hm hb hpMax record table kept across facts offer ranks commit handed
  have hoffer : Sighting.offer target pMax = offer := funext (Sighting.offer_eq target pMax)
  have hcommit : makeCommit record.number target mode bleed (s.table.pMax.getD 0) facts table = commit := by
    simp only [makeCommit, hpMax, Option.getD_some, Sighting.not_acrossAisle, hoffer]
    rfl
  rw [exec_handOff hp hq ht hm hb]
  unfold State.handOff
  rw [countP_acrossAisle]
  exact congrArg (fun c => Host.Outcome.next (State.settled (State.evaluate .bleed target record.number
    [(.bleedHi, across)] { handed with sweep := { handed.sweep with inFlight := some c } }))) hcommit

end Sys2Proof.Machine
end

section
/-! SUPPORT. The outcome and the WSN report of each offer of a commit (R43, R44, R78, R101). Nothing here leans on
the length of the foreign list. -/

namespace Sys2Proof.Machine

/-! ## The offers by name -/

/-- The offers of a commit name their items once each, and so do the lists of the table. It asks less than
`OffersSound`, which bounds the foreign list too. -/
structure CountTable.OffersNamed (t : CountTable) (c : Commit) : Prop where
  codes        : (c.offers.map (·.code)).Nodup
  kinds        : ∀ o ∈ c.offers, o.kind = t.kindOf o.code
  ranks        : (t.entries.map (·.rank)).Nodup
  foreignCodes : (t.foreign.map (·.code)).Nodup

theorem State.offersNamed {s : State} (hl : s.ListSound) (hs : s.SightingsSound) {c : Commit}
    (hc : s.sweep.inFlight = some c) : s.table.OffersNamed c where
  codes := (hs.offers c hc).1
  kinds o ho := ((hs.offers c hc).2 o ho).1
  ranks := hl.ranks_nodup
  foreignCodes := (List.nodup_append.mp hl.codes).2.1

section
variable {t : CountTable} {c : Commit}

/-- Of the listed offers the foreign list says nothing: they are sound over the table without it. -/
theorem CountTable.OffersNamed.listed (h : t.OffersNamed c) :
    ({ t with foreign := [] } : CountTable).OffersSound c where
  codes := h.codes
  kinds := h.kinds
  ranks := h.ranks
  foreignCodes := .nil
  room := Nat.zero_le _

theorem CountTable.OffersNamed.offers_nodup (h : t.OffersNamed c) : c.offers.Nodup :=
  .of_map _ h.codes

/-- Before the first offer each item holds what its offer meets (R94, R95). -/
theorem CountTable.OffersNamed.start_placementOf (h : t.OffersNamed c) (o : Offer) :
    (t.offersStart c).placementOf o = t.meets c o := by
  cases hk : o.kind with
  | listed r =>
    have hstart := h.listed.start_placementOf o
    simp only [CountTable.meets, CountTable.placementOf, hk, CommitWork.placementOf_listed hk] at hstart ⊢
    rw [← hstart]
    unfold CountTable.offersStart
    split <;> rfl
  | foreign =>
    rw [CountTable.meets, CountTable.placementOf_eq, CommitWork.placementOf_foreign hk,
      CommitWork.placementOf_foreign hk]
    unfold CountTable.offersStart
    split
    next hm =>
      have hfind := find_filter_of_nodup h.foreignCodes (fun f => !f.placement.at c.target) o.code
      have hv : ∀ p, (!c.vacates p) = !(p.at c.target) := fun p => by
        simp [Commit.vacates, hm, Placement.at, beq_eq_decide]
      simp only [CommitWork.vacate, CountTable.commitStart, hfind, hv, Option.filter_map]
      rfl
    next hm =>
      have hv : ∀ p, (!c.vacates p) = true := fun p => by simp [Commit.vacates, hm]
      simp only [hv]
      cases t.commitStart.foreign.find? (fun f => f.code == o.code) <;> rfl

end

/-! ## What an offer comes to (R95, R98, R101) -/

/-- The outcome of an offer: a foreign newcomer is placed or dropped, and every other offer is weighed against what
its item holds after the vacate (R95, R98). -/
def CountTable.outcomeOf (t : CountTable) (c : Commit) (o : Offer) : OfferOutcome :=
  if o.kind = .foreign ∧ t.meets c o = none then (if t.places c o = true then .placed else .dropped)
  else offerOutcome t.geometry c.target o (t.meets c o)

/-- The WSN report of an offer: that of its watched entry, when the offer is placed (R43). -/
def CountTable.wsnOf (t : CountTable) (c : Commit) (o : Offer) : Option Report :=
  match o.kind with
  | .foreign => none
  | .listed r =>
    ((t.entries.find? (fun e => e.rank == r)).filter (fun e => e.watch && t.places c o)).map
      (wsnReport c t.entries o)

section
variable {t : CountTable} {c : Commit} {o : Offer}

theorem CountTable.wsnOf_foreign (hk : o.kind = .foreign) : t.wsnOf c o = none := by
  simp [CountTable.wsnOf, hk]

theorem CountTable.wsnOf_listed {r : Nat} (hk : o.kind = .listed r) : t.wsnOf c o =
    ((t.entries.find? (fun e => e.rank == r)).filter (fun e => e.watch && t.places c o)).map
      (wsnReport c t.entries o) := by
  simp [CountTable.wsnOf, hk]

/-- An offer of an item that is no newcomer to the foreign list is weighed (R95). -/
theorem CountTable.outcomeOf_weighed (h : o.kind ≠ .foreign ∨ t.meets c o ≠ none) :
    t.outcomeOf c o = offerOutcome t.geometry c.target o (t.meets c o) :=
  if_neg (fun hn => h.elim (· hn.1) (· hn.2))

theorem CountTable.outcomeOf_newcomer (hk : o.kind = .foreign) (hm : t.meets c o = none) :
    t.outcomeOf c o = if t.places c o = true then .placed else .dropped :=
  if_pos ⟨hk, hm⟩

/-- Each outcome in the terms of R101: what the offer meets, and whether it is placed or kept. -/
theorem CountTable.outcomeOf_iff (t : CountTable) (c : Commit) (o : Offer) :
    (t.outcomeOf c o = .placed ↔ t.places c o = true ∧ t.meets c o = none) ∧
    (t.outcomeOf c o = .movedIn ↔ t.places c o = true ∧ t.meets c o ≠ none) ∧
    (t.outcomeOf c o = .kept ↔ t.keeps c o = true) ∧
    (t.outcomeOf c o = .dropped ↔ (o.kind = .foreign ∧ t.meets c o = none) ∧ t.places c o = false) := by
  have hkeeps : t.meets c o = none → t.keeps c o = false := fun hm => by simp [CountTable.keeps, hm]
  by_cases hnew : o.kind = .foreign ∧ t.meets c o = none
  · rw [CountTable.outcomeOf_newcomer hnew.1 hnew.2, hkeeps hnew.2]
    cases t.places c o <;> simp [hnew]
  · have hnot : o.kind ≠ .foreign ∨ t.meets c o ≠ none := not_and_or.mp hnew
    have hkept := offerOutcome_kept_iff (t := t) (c := c) o rfl
    rw [CountTable.outcomeOf_weighed hnot, CountTable.places_of_not_newcomer hnot]
    cases hm : t.meets c o with
    | none =>
      simp [offerOutcome, hkeeps hm]
    | some p =>
      rw [hm] at hkept
      cases hw : offerWins t.geometry c.target o.strength p <;> simp [offerOutcome, hw] at hkept ⊢ <;>
        simp [hkept]

end

end Sys2Proof.Machine
end

section
/-! SUPPORT. The counts and the reports that the offers of a commit add up to, one offer at a time (R43, R78,
R101). -/

namespace Sys2Proof.Machine

/-! ## The entries by rank, code and watch mark -/

/-- What a WSN report reads of its entry: the rank, the code and the watch mark. -/
def Entry.told (e : Entry) : Nat × ItemCode × Bool := (e.rank, e.code, e.watch)

/-- A search by rank finds in two lists of the same ranks, codes and watch marks the like of it, or nothing. -/
theorem find_rank_told {xs ys : List Entry} (h : xs.map Entry.told = ys.map Entry.told) (r : Nat) :
    (xs.find? (fun e => e.rank == r)).map Entry.told = (ys.find? (fun e => e.rank == r)).map Entry.told := by
  have hfind : ∀ es : List Entry, (es.find? (fun e => e.rank == r)).map Entry.told =
      (es.map Entry.told).find? (fun n => n.1 == r) := fun es => by rw [List.find?_map]; rfl
  rw [hfind, hfind, h]

theorem map_told_of_map {f : Entry → Entry} (hf : ∀ e, (f e).told = e.told) (es : List Entry) :
    (es.map f).map Entry.told = es.map Entry.told := by
  simp only [List.map_map, Function.comp_def, hf]

theorem CountTable.offersStart_told (t : CountTable) (c : Commit) :
    (t.offersStart c).entries.map Entry.told = t.entries.map Entry.told := by
  unfold CountTable.offersStart
  split
  · exact map_told_of_map (fun e => by unfold Entry.vacate; split <;> rfl) _
  · rfl

/-- An offer leaves the rank, the code and the watch mark of every entry. -/
theorem Applies.told {g : Option Geometry} {c : Commit} {before : List Entry} {o : Offer} {w w' : CommitWork}
    (h : Applies g c before o w w') : w'.entries.map Entry.told = w.entries.map Entry.told := by
  cases h
  case placedListed => exact map_told_of_map (fun e => by split <;> rfl) _
  all_goals rfl

/-- The reports of two entries of the same rank and code are the same. -/
theorem wsnReport_congr {c : Commit} {before : List Entry} {o : Offer} {e e' : Entry} (h : e'.told = e.told) :
    wsnReport c before o e' = wsnReport c before o e := by
  simp only [Entry.told, Prod.mk.injEq] at h
  simp only [wsnReport, h.1, h.2.1]

/-! ## The work of a commit after some of its offers -/

section
variable {t : CountTable} {c : Commit} {done rest : List Offer} {o : Offer} {w w' : CommitWork}

/-- The counts of some offers (R78). -/
def CountTable.countOf (t : CountTable) (c : Commit) (done : List Offer) : Outcomes :=
  done.foldl (fun n o => n.count c.target o (t.outcomeOf c o)) Outcomes.zero

/-- The work of a commit after some of its offers: the items of the other offers hold what those will meet, the
foreign list has grown by the newcomers it had room for, and the counts and the reports are those of the offers. -/
structure CountTable.WorkCounted (t : CountTable) (c : Commit) (done : List Offer) (w : CommitWork) : Prop where
  entries : w.entries.map Entry.told = t.entries.map Entry.told
  waiting : ∀ o ∈ c.offers, o ∉ done → w.placementOf o = t.meets c o
  foreign : w.foreign.length = (t.foreignLeft c).length +
    min (t.newcomersIn c done).length (Config.foreignListSize - (t.foreignLeft c).length)
  outcomes : w.outcomes = t.countOf c done
  wsns : w.wsns = done.filterMap (t.wsnOf c)

/-- The vacate leaves the foreign entries that do not stand on the target of a RECOUNT (R94). -/
theorem CountTable.offersStart_foreign (t : CountTable) (c : Commit) :
    (t.offersStart c).foreign = t.foreignLeft c := by
  unfold CountTable.offersStart CountTable.foreignLeft
  split
  next hm => exact List.filter_congr (fun f _ => by simp [Commit.vacates, hm, Placement.at, beq_eq_decide])
  next hm => exact (List.filter_eq_self.mpr (fun f _ => by simp [Commit.vacates, hm])).symm

theorem CountTable.OffersNamed.start_counted (h : t.OffersNamed c) : t.WorkCounted c [] (t.offersStart c) where
  entries := t.offersStart_told c
  waiting o _ _ := h.start_placementOf o
  foreign := by simp [t.offersStart_foreign c, CountTable.newcomersIn]
  outcomes := by unfold CountTable.offersStart; split <;> rfl
  wsns := by unfold CountTable.offersStart; split <;> rfl

/-- The next offer meets in the work what it meets in the table. -/
theorem CountTable.OffersNamed.placementOf_next (h : t.OffersNamed c) (hw : t.WorkCounted c done w)
    (hoffers : c.offers = done ++ o :: rest) : w.placementOf o = t.meets c o := by
  have hn := h.offers_nodup
  rw [hoffers] at hn
  exact hw.waiting o (by simp [hoffers]) (fun hd => (List.nodup_append.mp hn).2.2 o hd o (by simp) rfl)

/-- A newcomer finds room in the work exactly when it is placed (R98). -/
theorem CountTable.OffersNamed.room_iff_places (h : t.OffersNamed c) (hw : t.WorkCounted c done w)
    (hoffers : c.offers = done ++ o :: rest) (hk : o.kind = .foreign) (hm : t.meets c o = none) :
    w.foreign.length < Config.foreignListSize ↔ t.places c o = true := by
  have hn := h.offers_nodup
  rw [hoffers] at hn
  have hnew : o ∉ t.newcomersIn c done := fun hd =>
    (List.nodup_append.mp hn).2.2 o (List.mem_filter.mp hd).1 o (by simp) rfl
  have hplaces : t.places c o = decide (o ∈ t.admitted c) := by
    unfold CountTable.places
    rw [hk, hm]
  have hforeign := hw.foreign
  unfold CountTable.newcomersIn at hnew hforeign
  rw [hplaces, decide_eq_true_iff, CountTable.admitted, CountTable.newcomers, hoffers, List.filter_append,
    List.filter_cons_of_pos (by simp [hk, hm]), mem_take_iff_length_lt hnew]
  omega

/-- A listed offer finds in the work the entry of its rank, with the code and the watch mark it has in the table. -/
theorem CountTable.OffersNamed.find_next (h : t.OffersNamed c) (hw : t.WorkCounted c done w)
    (ho : o ∈ c.offers) {r : Nat} (hk : o.kind = .listed r) :
    ∃ e b, w.entries.find? (fun e => e.rank == r) = some e ∧ t.entries.find? (fun e => e.rank == r) = some b ∧
      e.told = b.told := by
  obtain ⟨b, hb, hr, -⟩ := h.listed.entry ho hk
  have hsome : (t.entries.find? (fun e => e.rank == r)).isSome = true :=
    List.find?_isSome.mpr ⟨b, hb, by simpa using hr⟩
  obtain ⟨b, hfind⟩ := Option.isSome_iff_exists.mp hsome
  have htold := find_rank_told hw.entries r
  rw [hfind, Option.map_some, Option.map_eq_some_iff] at htold
  obtain ⟨e, he, heq⟩ := htold
  exact ⟨e, b, he, hfind, heq⟩

/-- The next offer is counted by its outcome (R101). -/
theorem CountTable.OffersNamed.outcomes_next (h : t.OffersNamed c) (hw : t.WorkCounted c done w)
    (hoffers : c.offers = done ++ o :: rest) (ha : Applies t.geometry c t.entries o w w') :
    w'.outcomes = w.outcomes.count c.target o (t.outcomeOf c o) := by
  have hmeets := h.placementOf_next hw hoffers
  have hlisted {r : Nat} {e : Entry} (hk : o.kind = .listed r)
      (he : w.entries.find? (fun e => e.rank == r) = some e) :
      t.outcomeOf c o = offerOutcome t.geometry c.target o e.placement := by
    rw [CommitWork.placementOf_listed hk, he, Option.bind_some] at hmeets
    rw [CountTable.outcomeOf_weighed (.inl (by simp [hk])), hmeets]
  have hfound {f : ForeignEntry} (hk : o.kind = .foreign)
      (hf : w.foreign.find? (fun f => f.code == o.code) = some f) :
      t.outcomeOf c o = offerOutcome t.geometry c.target o (some f.placement) := by
    rw [CommitWork.placementOf_foreign hk, hf, Option.map_some] at hmeets
    rw [CountTable.outcomeOf_weighed (.inr (by simp [← hmeets])), hmeets]
  have hnewcomer (hk : o.kind = .foreign) (hn : w.foreign.find? (fun f => f.code == o.code) = none) :
      t.outcomeOf c o = if w.foreign.length < Config.foreignListSize then .placed else .dropped := by
    rw [CommitWork.placementOf_foreign hk, hn, Option.map_none] at hmeets
    rw [CountTable.outcomeOf_newcomer hk hmeets.symm]
    simp only [h.room_iff_places hw hoffers hk hmeets.symm]
  cases ha with
  | lost r hk hn =>
    obtain ⟨e, -, he, -⟩ := h.find_next hw (by simp [hoffers]) hk
    exact nomatch hn.symm.trans he
  | keptListed r e hk he hx => rw [hlisted hk he, hx]
  | placedListed r e x hk he hx hne => rw [hlisted hk he, hx]
  | keptForeign f hk hf hx => rw [hfound hk hf, hx]
  | movedForeign f x hk hf hx hne => rw [hfound hk hf, hx]
  | addedForeign hk hn hroom => rw [hnewcomer hk hn, if_pos hroom]
  | droppedForeign hk hn hfull => rw [hnewcomer hk hn, if_neg (Nat.not_lt.mpr hfull)]

/-- The next offer queues its own report, if it has one (R43). -/
theorem CountTable.OffersNamed.wsns_next (h : t.OffersNamed c) (hw : t.WorkCounted c done w)
    (hoffers : c.offers = done ++ o :: rest) (ha : Applies t.geometry c t.entries o w w') :
    w'.wsns = w.wsns ++ (t.wsnOf c o).toList := by
  have hmeets := h.placementOf_next hw hoffers
  have hlisted {r : Nat} {e : Entry} (hk : o.kind = .listed r)
      (he : w.entries.find? (fun e => e.rank == r) = some e) :
      t.wsnOf c o = if e.watch = true ∧ offerOutcome t.geometry c.target o e.placement ≠ .kept then
        some (wsnReport c t.entries o e) else none := by
    obtain ⟨e', b, he', hb, htold⟩ := h.find_next hw (by simp [hoffers]) hk
    cases he.symm.trans he'
    have hwatch : b.watch = e.watch := (congrArg (·.2.2) htold).symm
    rw [CommitWork.placementOf_listed hk, he, Option.bind_some] at hmeets
    rw [CountTable.wsnOf_listed hk, hb, Option.filter_some, hwatch,
      CountTable.places_of_not_newcomer (.inl (by simp [hk])), wsnReport_congr htold]
    simp only [ne_eq, offerOutcome_kept_iff o hmeets]
    cases e.watch <;> cases t.keeps c o <;> simp
  cases ha with
  | keptListed r e hk he hx => simp [hlisted hk he, hx]
  | placedListed r e x hk he hx hne =>
    rw [hlisted hk he, hx]
    by_cases hwatch : e.watch = true <;> simp [hwatch, hne]
  | lost r hk hn =>
    obtain ⟨e, -, he, -⟩ := h.find_next hw (by simp [hoffers]) hk
    exact nomatch hn.symm.trans he
  | keptForeign f hk | movedForeign f x hk | addedForeign hk | droppedForeign hk =>
    simp [CountTable.wsnOf_foreign hk]

theorem CountTable.OffersNamed.step_counted (h : t.OffersNamed c) (hw : t.WorkCounted c done w)
    (hoffers : c.offers = done ++ o :: rest) (ha : Applies t.geometry c t.entries o w w') :
    t.WorkCounted c (done ++ [o]) w' where
  entries := ha.told.trans hw.entries
  waiting o' ho' hn := by
    rw [List.mem_append, List.mem_singleton, not_or] at hn
    have ho : o ∈ c.offers := by simp [hoffers]
    rw [ha.placementOf_other (fun r hk' hk => hn.2 (h.listed.eq_of_rank ho' ho hk' hk))
      (fun hc => hn.2 (h.listed.eq_of_code ho' ho hc.symm))]
    exact hw.waiting o' ho' hn.1
  foreign := by
    have hlength := ha.foreign_length
    have hforeign := hw.foreign
    rw [h.placementOf_next hw hoffers] at hlength
    have hone : (t.newcomersIn c (done ++ [o])).length = (t.newcomersIn c done).length +
        if o.kind = .foreign ∧ t.meets c o = none then 1 else 0 := by
      simp only [CountTable.newcomersIn, List.filter_append, List.length_append]
      split
      next hnew => simp [hnew]
      next hold => simpa using hold
    rw [hone, hlength]
    by_cases hnew : o.kind = .foreign ∧ t.meets c o = none
    · simp only [hnew.1, hnew.2, true_and, and_self, if_true]
      split <;> omega
    · rw [if_neg (fun hc => hnew ⟨hc.1, hc.2.1⟩), if_neg hnew]
      exact hforeign
  outcomes := by
    rw [h.outcomes_next hw hoffers ha, hw.outcomes]
    simp [CountTable.countOf]
  wsns := by
    rw [h.wsns_next hw hoffers ha, hw.wsns, List.filterMap_append]
    cases hx : t.wsnOf c o <;> simp [hx]

theorem CountTable.OffersNamed.counted (h : t.OffersNamed c) : t.WorkCounted c c.offers (t.applyOffers c) :=
  t.applyOffers_induction c (P := t.WorkCounted c) h.start_counted
    (fun _ _ _ _ _ hoffers hw ha => h.step_counted hw hoffers ha)

end

end Sys2Proof.Machine
end

section
/-! SUPPORT. The counts and the reports of a commit, and the event with and without an affected shelf (R43, R78 to
R80, R101). -/

namespace Sys2Proof.Machine

/-! ## The counts (R78, R101) -/

section
variable (t : CountTable) (c : Commit)

/-- Each count is the number of the offers that it counts. -/
theorem CountTable.countOf_eq (done : List Offer) :
    t.countOf c done =
      { newPlacements := done.countP (fun o => decide (t.outcomeOf c o = .placed))
        movedIn := done.countP (fun o => decide (t.outcomeOf c o = .movedIn))
        keptElsewhere := done.countP (fun o => decide (t.outcomeOf c o = .kept))
        foreign := done.countP (fun o => decide (o.kind = .foreign))
        foreignDropped := done.countP (fun o => decide (t.outcomeOf c o = .dropped))
        heard := done.countP (fun o => c.target.isShelf && o.position.isNone) } := by
  induction done using List.reverseRecOn with
  | nil => rfl
  | append_singleton done o ih =>
    have hlast : t.countOf c (done ++ [o]) = (t.countOf c done).count c.target o (t.outcomeOf c o) := by
      simp [CountTable.countOf]
    rw [hlast, ih]
    simp only [Outcomes.count, List.countP_append, List.countP_singleton, decide_eq_true_eq]

/-- Every offer has one of the four outcomes (R101). -/
theorem CountTable.countP_outcomeOf (done : List Offer) :
    done.countP (fun o => decide (t.outcomeOf c o = .placed)) +
      done.countP (fun o => decide (t.outcomeOf c o = .movedIn)) +
      done.countP (fun o => decide (t.outcomeOf c o = .kept)) +
      done.countP (fun o => decide (t.outcomeOf c o = .dropped)) = done.length := by
  induction done with
  | nil => rfl
  | cons o done ih =>
    simp only [List.countP_cons, List.length_cons, decide_eq_true_eq]
    cases t.outcomeOf c o <;> simp <;> omega

/-- Of elements that stand once each, those among the first k are the first k. -/
theorem countP_mem_take {α : Type} [DecidableEq α] {xs : List α} (hn : xs.Nodup) (k : Nat) :
    xs.countP (fun x => decide (x ∈ xs.take k)) = (xs.take k).length := by
  have htake : (xs.take k).countP (fun x => decide (x ∈ xs.take k)) = (xs.take k).length :=
    List.countP_eq_length.mpr (by simp)
  have hdrop : (xs.drop k).countP (fun x => decide (x ∈ xs.take k)) = 0 :=
    List.countP_eq_zero.mpr (fun x hx => by simpa using fun ht => List.disjoint_take_drop hn le_rfl ht hx)
  have hsum := List.countP_append (p := fun x => decide (x ∈ xs.take k)) (l₁ := xs.take k) (l₂ := xs.drop k)
  rwa [List.take_append_drop, htake, hdrop] at hsum

/-- The offers dropped are the newcomers behind those admitted (R98). -/
theorem CountTable.OffersNamed.countP_dropped {t : CountTable} {c : Commit} (h : t.OffersNamed c) :
    c.offers.countP (fun o => decide (t.outcomeOf c o = .dropped)) =
      (t.newcomers c).length - (t.admitted c).length := by
  have hsplit := (t.newcomers c).length_eq_countP_add_countP (fun o => decide (o ∈ t.admitted c))
  have hdropped : c.offers.countP (fun o => decide (t.outcomeOf c o = .dropped)) =
      (t.newcomers c).countP (fun o => !decide (o ∈ t.admitted c)) := by
    rw [CountTable.newcomers, List.countP_filter]
    refine List.countP_congr (fun o _ => ?_)
    rw [decide_eq_true_iff, (t.outcomeOf_iff c o).2.2.2]
    by_cases hnew : o.kind = .foreign ∧ t.meets c o = none
    · simp [CountTable.places, hnew.1, hnew.2]
    · simp only [hnew, false_and, Bool.and_eq_true, decide_eq_true_eq, and_false]
  have hadmitted : (t.newcomers c).countP (fun o => decide (o ∈ t.admitted c)) = (t.admitted c).length :=
    countP_mem_take (h.offers_nodup.filter _) _
  simp only [decide_eq_true_eq, ← decide_not] at hsplit hdropped
  omega

end

/-! ## The reports (R43, R44) -/

theorem CountTable.weighs_iff {t : CountTable} {target held : Loc} : t.weighs target held = true ↔
    ∃ a b, target = .shelf a ∧ held = .shelf b ∧
      (a = b ∨ ∃ g, t.geometry = some g ∧ g.neighbours a b = true) := by
  cases target <;> cases held <;> simp [CountTable.weighs, Option.any_eq_true]

section
variable {t : CountTable} {c : Commit} {o : Offer} {r : Nat} {e : Entry}

/-- A listed offer meets the placement of its entry, unless the vacate removes it (R94, R95). -/
theorem CountTable.meets_listed (hk : o.kind = .listed r)
    (hfind : t.entries.find? (fun e => e.rank == r) = some e) :
    t.meets c o = e.placement.filter (fun p => !c.vacates p) := by
  rw [CountTable.meets, CountTable.placementOf_eq, CommitWork.placementOf_listed hk]
  simp only [CountTable.commitStart, hfind, Option.bind_some]

/-- A listed offer is placed unless it is weighed and no stronger than the placement it meets (R95). -/
theorem CountTable.places_listed_iff (hk : o.kind = .listed r)
    (hfind : t.entries.find? (fun e => e.rank == r) = some e) :
    t.places c o = true ↔ ∀ p, e.placement = some p → ¬ (c.mode = .recount ∧ p.loc = c.target) →
      (∃ a b, c.target = .shelf a ∧ p.loc = .shelf b ∧
        (a = b ∨ ∃ g, t.geometry = some g ∧ g.neighbours a b = true)) → p.strength < o.strength := by
  rw [CountTable.places_of_not_newcomer (.inl (by simp [hk])), CountTable.keeps,
    CountTable.meets_listed hk hfind]
  simp only [← CountTable.weighs_iff]
  cases e.placement with
  | none => simp
  | some p =>
    simp only [Option.filter_some, Option.some.injEq, forall_eq']
    by_cases hv : c.mode = .recount ∧ p.loc = c.target
    · have hgone : c.vacates p = true := by simp [Commit.vacates, hv]
      simp [hv, hgone]
    · have hstays : c.vacates p = false := by simpa [Commit.vacates] using hv
      cases hw : t.weighs c.target p.loc <;> simp [hv, hstays, hw]

/-- The report of a listed offer: that of its entry when this is watched and the offer is placed (R43, R44). -/
theorem CountTable.wsnOf_entry (hk : o.kind = .listed r)
    (hfind : t.entries.find? (fun e => e.rank == r) = some e) :
    t.wsnOf c o = if e.watch = true ∧ t.places c o = true then
      some (.wsn c.number r e.code c.target o.position (e.placement.map (fun p => p.loc))) else none := by
  have hr : e.rank = r := by simpa using List.find?_some hfind
  have hreport : wsnReport c t.entries o e =
      .wsn c.number r e.code c.target o.position (e.placement.map (fun p => p.loc)) := by
    rw [wsnReport, hr, hfind]
    rfl
  rw [CountTable.wsnOf_listed hk, hfind, Option.filter_some, ← hreport]
  by_cases hw : e.watch = true ∧ t.places c o = true <;> simp [hw]

end

/-- The lookup by rank finds the entry that a search of the list finds (R25). -/
theorem State.ListSound.find_of_byRank {s : State} (h : s.ListSound) {r : Nat} {e : Entry}
    (he : s.table.byRank r = some e) : s.table.entries.find? (fun e => e.rank == r) = some e := by
  obtain ⟨hmem, hr⟩ := (h.byRank_eq_some r e).mp he
  cases hfind : s.table.entries.find? (fun e => e.rank == r) with
  | none => exact absurd hr (by simpa using List.find?_eq_none.mp hfind e hmem)
  | some b =>
    have hb : b.rank = r := by simpa using List.find?_some hfind
    rw [List.inj_on_of_nodup_map h.ranks_nodup (List.mem_of_find?_eq_some hfind) hmem (hb.trans hr.symm)]

/-! ## The event (R79, R80) -/

theorem State.reportAll_eq (s : State) (rs : List Report) :
    s.reportAll rs = { s with link := rs.foldl (fun l r => l.queueReport r) s.link } := by
  induction rs generalizing s with
  | nil => rfl
  | cons r rs ih => exact ih (s.report r)

/-- An evaluation neither reads nor writes the Sweep Unit. -/
theorem State.evaluate_withSweep (s : State) (u : SweepUnit) (k : EvalKind) (l : Loc) (n : Nat)
    (ms : List (CondCode × Nat)) :
    ({ s with sweep := u } : State).evaluate k l n ms = { s.evaluate k l n ms with sweep := u } := by
  unfold State.evaluate
  dsimp only
  repeat' split
  all_goals rfl

/-- ORDER's completion after a shelf sweep: the shelf conditions are evaluated, and SWD is queued behind (R79). -/
theorem State.completeOrder_shelf {s : State} {u : Nat} (h : s.sweep.record.target = some (.shelf u)) :
    let x := ({ s with sweep := { s.sweep with phase := .idle } } : State).evaluate .shelf (.shelf u)
      s.sweep.record.number (s.table.shelfMeasures (.shelf u))
    s.completeOrder = { x with link := x.link.queueReport (.swd s.sweep.record) } := by
  simp only [State.completeOrder, h, State.evaluate_withSweep, State.report, State.evaluate_sweep]

/-- After a loose sweep nothing is evaluated (R79). -/
theorem State.completeOrder_loose {s : State} {i : Nat} (h : s.sweep.record.target = some (.loose i)) :
    s.completeOrder =
      { s with link := s.link.queueReport (.swd s.sweep.record), sweep := { s.sweep with phase := .idle } } := by
  simp only [State.completeOrder, h, State.report]

/-- In ORDER no barrier is due (R164). -/
theorem State.dueBarrier_ordering {s : State} (h : s.sweep.phase = .order) : s.dueBarrier = none := by
  unfold State.dueBarrier
  split <;> simp [State.barrierHolds, h]

/-- The commit event with the reports it queues, before ORDER begins or completes (R93). -/
theorem State.committed_eq (s : State) (c : Commit) :
    s.committed c =
      { s with
        link := (s.table.applyOffers c).wsns.foldl (fun l r => l.queueReport r) s.link
        table := s.table.commit c (s.table.applyOffers c)
        sweep := s.sweep.afterCommit c (s.table.applyOffers c).outcomes
        order := OrderUnit.beginShelf (s.table.commit c (s.table.applyOffers c)).entries
          s.link.settings.tolerance (s.table.applyOffers c).affectedShelves } :=
  State.reportAll_eq _ _

/-- The commit event with no affected shelf, up to the evaluation and the SWD of ORDER's completion. -/
def State.committedIdle (c : Commit) (s : State) : State :=
  { s with
    link := (s.table.applyOffers c).wsns.foldl (fun l r => l.queueReport r) s.link
    sweep := (s.commitEvent c).sweep
    table := (s.commitEvent c).table
    order := OrderUnit.cleared }

section
variable {s : State} {c : Commit}

/-- With an affected shelf ORDER begins, and the transmitter may begin the first report (R160). -/
theorem State.commitEvent_ordering (h : (s.table.applyOffers c).affectedShelves ≠ []) :
    (s.commitEvent c).pump.link =
      ((s.table.applyOffers c).wsns.foldl (fun l r => l.queueReport r) s.link).pump := by
  have hphase : (s.commitEvent c).sweep.phase = .order := by simp [h]
  rw [State.pump_link, if_pos (State.dueBarrier_ordering hphase), State.commitEvent_eq,
    if_neg (by simpa using h), State.committed_eq]

theorem State.committedIdle_eq (h : (s.table.applyOffers c).affectedShelves = []) :
    s.committedIdle c = { s.committed c with sweep := { (s.committed c).sweep with phase := .idle } } := by
  simp only [State.committedIdle, State.committed_eq, State.commitEvent_sweep, State.commitEvent_table, h, if_true]
  rfl

/-- With no affected shelf the conditions of a shelf target are evaluated, and SWD is queued behind (R79, R80). -/
theorem State.commitEvent_shelf (h : (s.table.applyOffers c).affectedShelves = []) {u : Nat}
    (ht : s.sweep.record.target = some (.shelf u)) :
    let x := (s.committedIdle c).evaluate .shelf (.shelf u) s.sweep.record.number
      ((s.committedIdle c).table.shelfMeasures (.shelf u))
    s.commitEvent c = { x with link := x.link.queueReport (.swd (s.commitEvent c).sweep.record) } := by
  have htarget : (s.committed c).sweep.record.target = some (.shelf u) := by
    rw [State.committed_sweep]
    exact ht
  rw [State.committedIdle_eq h, State.commitEvent_sweep, State.commitEvent_eq, if_pos (by simp [h]),
    State.completeOrder_shelf htarget, State.committed_sweep]
  rfl

/-- With no affected shelf and a loose target SWD is queued, and nothing is evaluated (R79, R80). -/
theorem State.commitEvent_loose (h : (s.table.applyOffers c).affectedShelves = []) {i : Nat}
    (ht : s.sweep.record.target = some (.loose i)) :
    s.commitEvent c = { s.committedIdle c with
      link := (s.committedIdle c).link.queueReport (.swd (s.commitEvent c).sweep.record) } := by
  have htarget : (s.committed c).sweep.record.target = some (.loose i) := by
    rw [State.committed_sweep]
    exact ht
  rw [State.committedIdle_eq h, State.commitEvent_sweep, State.commitEvent_eq, if_pos (by simp [h]),
    State.completeOrder_loose htarget, State.committed_sweep]

end

/-- Settles O56: the counts and the reports are those of the offers, counted one by one, and the event is that of
the model's own equations. -/
theorem commitCountsAndReports : Obligations.CommitCountsAndReports := by
  intro s t c hcontrol hlist hsight hphase hflight hexec
  have hnamed := State.offersNamed hlist hsight hflight
  obtain ⟨-, -, -, hcounts, hwsns⟩ := hnamed.counted
  obtain ⟨htarget, hnumber⟩ := hcontrol.commitInFlight.2 c hflight
  have ht : t = (s.commitEvent c).pump :=
    (Host.Outcome.next.inj ((execCommit_inFlight hphase hflight).symm.trans hexec)).symm
  have hsweep : t.sweep = (s.commitEvent c).sweep := by rw [ht, State.pump_sweep]
  have htable : t.table = (s.commitEvent c).table := by rw [ht, State.pump_table]
  have hjobs : t.order.jobs = (s.table.applyOffers c).affectedShelves := by
    rw [ht, State.pump_order, State.commitEvent_order, OrderUnit.beginShelf_jobs]
  have hiff := s.table.outcomeOf_iff c
  intro o
  have ho : o = s.table.countOf c c.offers := by
    simp only [o, hsweep, State.commitEvent_sweep, ← hcounts]
    rfl
  rw [ho, CountTable.countOf_eq]
  refine ⟨s.table.countP_outcomeOf c c.offers, ?_, ?_, ?_, hnamed.countP_dropped, rfl, ?_, ?_⟩
  · exact List.countP_congr (fun x _ => by simp [(hiff x).1])
  · exact List.countP_congr (fun x _ => by simp [(hiff x).2.1])
  · exact List.countP_congr (fun x _ => by simp [(hiff x).2.2.1])
  · cases c.target.isShelf
    · simp
    · exact List.countP_congr (fun x _ => by simp)
  · intro placed
    refine ⟨c.offers.map (s.table.wsnOf c), ?_, ?_⟩
    · rw [List.forall₂_map_right_iff, List.forall₂_same]
      intro x hx
      split
      next hk => exact CountTable.wsnOf_foreign hk
      next r hk =>
        intro e he
        have hfind := hlist.find_of_byRank he
        have hplaced : s.table.places c x = true ↔ placed x e := CountTable.places_listed_iff hk hfind
        rw [CountTable.wsnOf_entry hk hfind]
        exact ⟨fun hp => if_pos (hp.imp_right hplaced.mpr), fun hp => if_neg (hp ∘ And.imp_right hplaced.mp)⟩
    · rw [List.filterMap_map, Function.id_comp, ← hwsns, hjobs, hsweep, htable]
      refine ⟨fun hsome => ?_, fun hnone => ⟨fun u hu => ?_, fun i hi => ?_⟩⟩
      · rw [ht]
        exact State.commitEvent_ordering hsome
      · rw [← hnumber]
        exact ht.trans (congrArg State.pump (State.commitEvent_shelf hnone (htarget.trans (congrArg some hu))))
      · exact ht.trans (congrArg State.pump (State.commitEvent_loose hnone (htarget.trans (congrArg some hi))))

end Sys2Proof.Machine
end

section
/-! The arithmetic of a sighting: what each kind of fold leaves, the exact sums where no fold has halved, and the
estimate between the FRONT positions (R85 to R90). -/

namespace Sys2Proof.Machine

/-! ## The four kinds of fold (R86 to R88) -/

section
variable {x : Sighting} {a : Additions}

theorem Sighting.fits_iff : x.fits a = true ↔ x.moment + a.moment ≤ Config.branchMax ∧
    x.front + a.front ≤ Config.branchMax ∧ x.back + a.back ≤ Config.branchMax := by
  simp [Sighting.fits, and_assoc]

/-- A frozen fold gains a read alone (R86). -/
theorem Sighting.fold_of_frozen (h : x.frozen = true) :
    x.fold a = { x with reads := satInc Config.count16Max x.reads } := by
  simp [Sighting.fold, Sighting.accumulate, h]

/-- A fold that fits adds (R86). -/
theorem Sighting.fold_of_fits (h : x.frozen = false) (hfit : x.fits a = true) :
    x.fold a = { x.add a with reads := satInc Config.count16Max x.reads } := by
  simp [Sighting.fold, Sighting.accumulate, h, hfit]

/-- A fold that does not fit halves first, below the largest scale (R87). -/
theorem Sighting.fold_of_renormalised (h : x.frozen = false) (hfit : ¬ x.fits a = true)
    (hs : x.scale < Config.scaleMax) :
    x.fold a = { x.halve.add a with reads := satInc Config.count16Max x.reads } := by
  simp [Sighting.fold, Sighting.accumulate, h, hfit, hs]

/-- A fold that does not fit freezes at the largest scale (R88). -/
theorem Sighting.fold_of_freezes (h : x.frozen = false) (hfit : ¬ x.fits a = true)
    (hs : ¬ x.scale < Config.scaleMax) :
    x.fold a = { x with frozen := true, reads := satInc Config.count16Max x.reads } := by
  simp [Sighting.fold, Sighting.accumulate, h, hfit, hs]

/-- A fold that leaves scale 0 and no freeze has added to a sighting of scale 0 that was not frozen. -/
theorem Sighting.fold_exact (hs : (x.fold a).scale = 0) (hf : (x.fold a).frozen = false) :
    (x.scale = 0 ∧ x.frozen = false) ∧ (x.fold a).moment = x.moment + a.moment ∧
      (x.fold a).front = x.front + a.front ∧ (x.fold a).back = x.back + a.back := by
  by_cases hfrozen : x.frozen = true
  · rw [Sighting.fold_of_frozen hfrozen] at hf
    exact absurd hfrozen (by simpa using hf)
  rw [Bool.not_eq_true] at hfrozen
  by_cases hfit : x.fits a = true
  · rw [Sighting.fold_of_fits hfrozen hfit] at hs ⊢
    exact ⟨⟨hs, hfrozen⟩, rfl, rfl, rfl⟩
  by_cases hscale : x.scale < Config.scaleMax
  · rw [Sighting.fold_of_renormalised hfrozen hfit hscale] at hs
    exact absurd hs (Nat.succ_ne_zero _)
  · rw [Sighting.fold_of_freezes hfrozen hfit hscale] at hf
    cases hf

end

/-- Each addition by the antenna of the read (R86). -/
theorem additionsOf_eq (antenna : Antenna) (w p : Nat) : additionsOf antenna w p =
    { moment := if antenna = .front then w * p else 0
      front := if antenna = .front then w else 0
      back := if antenna = .front then 0 else w } := by
  cases antenna <;> rfl

/-- The additions of any weight up to 255 are those of a read of that strength above a floor of 0. -/
theorem additionsOf_small_of_le (antenna : Antenna) {w p : Nat} (hw : w ≤ 255) (hp : p ≤ 1350) :
    (additionsOf antenna w p).Small := by
  have hread : readWeight 0 (BitVec.ofNat 8 w) = w := by
    simpa [readWeight] using Nat.lt_succ_of_le hw
  exact hread ▸ additionsOf_small antenna 0 (BitVec.ofNat 8 w) hp

/-- Settles O20: the four kinds of fold, and the range that a fold with small additions keeps. -/
theorem foldArithmetic : Obligations.FoldArithmetic := by
  intro x antenna w p hx hw hp
  dsimp only
  have hfits := Sighting.fits_iff (x := x) (a := additionsOf antenna w p)
  have hrange := hx.fold (additionsOf_small_of_le antenna hw hp)
  rw [additionsOf_eq] at hfits hrange ⊢
  refine ⟨hrange, Sighting.fold_of_frozen, fun h hfit => Sighting.fold_of_fits h (hfits.mpr hfit),
    fun h hfit hs => Sighting.fold_of_renormalised h (mt hfits.mp hfit) hs,
    fun h hfit hs => Sighting.fold_of_freezes h (mt hfits.mp hfit) (by simp [hs, Config.scaleMax])⟩

/-! ## The sums and the estimate (R85, R90) -/

/-- Reads of an antenna, a weight and a position, folded one by one. -/
def Sighting.foldReads (x : Sighting) (reads : List (Antenna × Nat × Nat)) : Sighting :=
  reads.foldl (fun x r => x.fold (additionsOf r.1 r.2.1 r.2.2)) x

/-- The reads of one antenna. -/
def readsOf (antenna : Antenna) (reads : List (Antenna × Nat × Nat)) : List (Antenna × Nat × Nat) :=
  reads.filter (fun r => r.1 = antenna)

theorem Sighting.foldReads_concat (x : Sighting) (reads : List (Antenna × Nat × Nat)) (r : Antenna × Nat × Nat) :
    x.foldReads (reads ++ [r]) = (x.foldReads reads).fold (additionsOf r.1 r.2.1 r.2.2) := by
  simp [Sighting.foldReads]

theorem sum_readsOf_concat (antenna : Antenna) (f : Antenna × Nat × Nat → Nat)
    (reads : List (Antenna × Nat × Nat)) (r : Antenna × Nat × Nat) :
    ((readsOf antenna (reads ++ [r])).map f).sum =
      ((readsOf antenna reads).map f).sum + if r.1 = antenna then f r else 0 := by
  by_cases h : r.1 = antenna <;> simp [readsOf, h]

/-- Without a halving or a freeze the branches are the sums over the FRONT and the BACK reads (R85). -/
theorem newSighting_foldReads_exact (code : ItemCode) (kind : SightingKind) (reads : List (Antenna × Nat × Nat))
    (hs : ((newSighting code kind).foldReads reads).scale = 0)
    (hf : ((newSighting code kind).foldReads reads).frozen = false) :
    ((newSighting code kind).foldReads reads).moment =
        ((readsOf .front reads).map (fun r => r.2.1 * r.2.2)).sum ∧
      ((newSighting code kind).foldReads reads).front = ((readsOf .front reads).map (fun r => r.2.1)).sum ∧
      ((newSighting code kind).foldReads reads).back = ((readsOf .back reads).map (fun r => r.2.1)).sum := by
  induction reads using List.reverseRecOn with
  | nil => exact ⟨rfl, rfl, rfl⟩
  | append_singleton reads r ih =>
    rw [Sighting.foldReads_concat] at hs hf ⊢
    obtain ⟨⟨hs', hf'⟩, hmoment, hfront, hback⟩ := Sighting.fold_exact hs hf
    obtain ⟨ihm, ihf, ihb⟩ := ih hs' hf'
    rw [hmoment, hfront, hback, ihm, ihf, ihb]
    simp only [sum_readsOf_concat]
    obtain ⟨antenna, w, p⟩ := r
    cases antenna <;> simp [additionsOf]

/-- The weighted sum of positions from lo to hi lies between lo and hi times the weight. -/
theorem sum_weighted_bounds {reads : List (Antenna × Nat × Nat)} {lo hi : Nat}
    (h : ∀ r ∈ reads, 0 < r.2.1 → lo ≤ r.2.2 ∧ r.2.2 ≤ hi) :
    lo * (reads.map (fun r => r.2.1)).sum ≤ (reads.map (fun r => r.2.1 * r.2.2)).sum ∧
      (reads.map (fun r => r.2.1 * r.2.2)).sum ≤ hi * (reads.map (fun r => r.2.1)).sum := by
  have hone : ∀ r ∈ reads, lo * r.2.1 ≤ r.2.1 * r.2.2 ∧ r.2.1 * r.2.2 ≤ hi * r.2.1 := by
    intro r hr
    rcases Nat.eq_zero_or_pos r.2.1 with hzero | hpos
    · simp [hzero]
    · obtain ⟨hlo, hhi⟩ := h r hr hpos
      rw [Nat.mul_comm lo, Nat.mul_comm hi]
      exact ⟨Nat.mul_le_mul_left _ hlo, Nat.mul_le_mul_left _ hhi⟩
  rw [← List.sum_map_mul_left, ← List.sum_map_mul_left]
  exact ⟨List.sum_le_sum (fun r hr => (hone r hr).1), List.sum_le_sum (fun r hr => (hone r hr).2)⟩

/-- The rounded quotient of a moment from lo to hi times the front weight lies between lo and hi (R90). -/
theorem Sighting.estimate_bounds {x : Sighting} {lo hi pMax : Nat} (hx : 0 < x.front) (hp : hi ≤ pMax)
    (hlo : lo * x.front ≤ x.moment) (hhi : x.moment ≤ hi * x.front) :
    lo ≤ x.estimate pMax ∧ x.estimate pMax ≤ hi := by
  have hlohi : lo ≤ hi := Nat.le_of_mul_le_mul_right (hlo.trans hhi) hx
  have hle : lo ≤ (x.moment + x.front / 2) / x.front :=
    (Nat.le_div_iff_mul_le hx).mpr (hlo.trans (Nat.le_add_right _ _))
  have hlt : (x.moment + x.front / 2) / x.front < hi + 1 := by
    rw [Nat.div_lt_iff_lt_mul hx, Nat.succ_mul]
    omega
  exact ⟨le_min hle (hlohi.trans hp), (min_le_left _ _).trans (Nat.le_of_lt_succ hlt)⟩

/-- Settles O21: by induction on the reads the branches are the exact sums, and the weighted mean of the FRONT
positions lies between their bounds. -/
theorem estimateBetweenFrontPositions : Obligations.EstimateBetweenFrontPositions := by
  intro code kind reads lo hi pMax fold x front hs hf
  have hsums := newSighting_foldReads_exact code kind reads hs hf
  refine ⟨hsums, fun hpos hp hbounds => ?_⟩
  obtain ⟨hmoment, hfront, -⟩ := hsums
  obtain ⟨hlo, hhi⟩ := sum_weighted_bounds hbounds
  exact Sighting.estimate_bounds hpos hp (hfront ▸ hmoment ▸ hlo) (hfront ▸ hmoment ▸ hhi)

end Sys2Proof.Machine
end

section
/-! One foreign offer and the recount vacate, equation by equation (R94, R95, R97, R98). -/

namespace Sys2Proof.Machine

/-! ## The strength rule (R95) -/

/-- An offer on the target is weighed against a placement: both are on shelves, the same or neighbours (R95). -/
def WeighedAt (g : Option Geometry) (target held : Loc) : Prop :=
  ∃ a b, target = .shelf a ∧ held = .shelf b ∧ (a = b ∨ ∃ k, g = some k ∧ k.neighbours a b = true)

/-- An offer wins unless it is weighed and no stronger (R95). -/
theorem offerWins_iff {g : Option Geometry} {target : Loc} {n : Nat} {p : Placement} :
    offerWins g target n p = true ↔ (WeighedAt g target p.loc → p.strength < n) := by
  unfold offerWins WeighedAt
  cases target with
  | loose i => simp
  | shelf a =>
    cases p.loc with
    | loose j => simp
    | shelf b => simp [Option.any_eq_true, imp_iff_not_or]

/-- The outcome of an offer against a placement: moved in when it wins, else kept (R95, R101). -/
theorem offerOutcome_some_of_wins {g : Option Geometry} {target : Loc} {o : Offer} {p : Placement}
    (h : WeighedAt g target p.loc → p.strength < o.strength) :
    offerOutcome g target o (some p) = .movedIn :=
  if_pos (offerWins_iff.mpr h)

theorem offerOutcome_some_of_weaker {g : Option Geometry} {target : Loc} {o : Offer} {p : Placement}
    (h : WeighedAt g target p.loc) (hle : o.strength ≤ p.strength) :
    offerOutcome g target o (some p) = .kept :=
  if_neg (fun hw => absurd (offerWins_iff.mp hw h) (Nat.not_lt.mpr hle))

/-! ## A foreign offer (R98) -/

section
variable (g : Option Geometry) (c : Commit) (before : List Entry) {w : CommitWork} {o : Offer}

/-- A foreign offer that is no stronger than the placement it is weighed against is kept elsewhere. -/
theorem CommitWork.applyOffer_keptForeign (hk : o.kind = .foreign) {f : ForeignEntry}
    (hf : w.foreign.find? (fun x => x.code == o.code) = some f)
    (ho : offerOutcome g c.target o (some f.placement) = .kept) :
    w.applyOffer g c before o =
      { w with
        foreign := w.foreign.map (fun x => if x.code = o.code then
          { x with placement := f.placement, sighted := satInc Config.count8Max x.sighted } else x)
        outcomes := w.outcomes.count c.target o .kept } := by
  simp [CommitWork.applyOffer, CommitWork.applyForeign, CommitWork.applyFound, hk, hf, ho]

/-- A foreign offer that wins moves its entry to the target. -/
theorem CommitWork.applyOffer_movedForeign (hk : o.kind = .foreign) {f : ForeignEntry}
    (hf : w.foreign.find? (fun x => x.code == o.code) = some f)
    (ho : offerOutcome g c.target o (some f.placement) = .movedIn) :
    w.applyOffer g c before o =
      { w with
        foreign := w.foreign.map (fun x => if x.code = o.code then
          { x with placement := o.placement c.target c.number, sighted := satInc Config.count8Max x.sighted }
          else x)
        affected := c.target :: f.placement.loc :: w.affected
        outcomes := w.outcomes.count c.target o .movedIn } := by
  simp [CommitWork.applyOffer, CommitWork.applyForeign, CommitWork.applyFound, hk, hf, ho, affectedBy]

/-- A foreign newcomer is added at the end of the list that has room. -/
theorem CommitWork.applyOffer_addedForeign (hk : o.kind = .foreign)
    (hn : w.foreign.find? (fun x => x.code == o.code) = none) (hroom : w.foreign.length < Config.foreignListSize) :
    w.applyOffer g c before o =
      { w with
        foreign := w.foreign ++
          [{ code := o.code, placement := o.placement c.target c.number, sighted := 1 }]
        affected := c.target :: w.affected
        outcomes := w.outcomes.count c.target o .placed } := by
  simp [CommitWork.applyOffer, CommitWork.applyForeign, hk, hn, hroom]

/-- A foreign newcomer is dropped and counted at the full list. -/
theorem CommitWork.applyOffer_droppedForeign (hk : o.kind = .foreign)
    (hn : w.foreign.find? (fun x => x.code == o.code) = none) (hfull : ¬ w.foreign.length < Config.foreignListSize) :
    w.applyOffer g c before o =
      { w with
        overflow := satInc Config.count8Max w.overflow
        outcomes := w.outcomes.count c.target o .dropped } := by
  simp [CommitWork.applyOffer, CommitWork.applyForeign, hk, hn, hfull]

end

/-- A foreign offer counted: one more foreign, one more heard on a shelf without a position, and its outcome
(R101). -/
theorem Outcomes.count_foreign {target : Loc} {o : Offer} (hk : o.kind = .foreign) (x : OfferOutcome)
    (n : Outcomes) : n.count target o x =
      { newPlacements := n.newPlacements + if x = .placed then 1 else 0
        movedIn := n.movedIn + if x = .movedIn then 1 else 0
        keptElsewhere := n.keptElsewhere + if x = .kept then 1 else 0
        foreign := n.foreign + 1
        foreignDropped := n.foreignDropped + if x = .dropped then 1 else 0
        heard := n.heard + if target.isShelf = true ∧ o.position = none then 1 else 0 } := by
  simp [Outcomes.count, hk]

/-! ## The recount vacate (R94) -/

theorem CommitWork.vacate_foreign (l : Loc) (w : CommitWork) :
    (w.vacate l).foreign = w.foreign.filter (fun f => decide (f.placement.loc ≠ l)) :=
  List.filter_congr (fun f _ => by simp [Placement.at, beq_eq_decide])

theorem CommitWork.vacate_entries (l : Loc) (w : CommitWork) :
    (w.vacate l).entries = w.entries.map (fun e =>
      if e.placement.any (fun q => decide (q.loc = l)) = true then
        { e with placement := none, shelfStanding := .none, lentSince := false } else e) := by
  have hat : Placement.at l = fun q => decide (q.loc = l) := funext (fun q => beq_eq_decide q.loc l)
  refine List.map_congr_left (fun e _ => ?_)
  rw [Entry.vacate, Entry.placedAt, hat]

/-- A vacate affects its location when something stood there. -/
theorem CommitWork.mem_vacate_affected (l x : Loc) (w : CommitWork) :
    x ∈ (w.vacate l).affected ↔ x ∈ w.affected ∨ (x = l ∧
      ((∃ e ∈ w.entries, ∃ q, e.placement = some q ∧ q.loc = l) ∨ ∃ f ∈ w.foreign, f.placement.loc = l)) := by
  have hheld : (!(w.entries.filter (Entry.placedAt l)).isEmpty || w.foreign.any (fun f => f.placement.at l)) = true ↔
      (∃ e ∈ w.entries, ∃ q, e.placement = some q ∧ q.loc = l) ∨ ∃ f ∈ w.foreign, f.placement.loc = l := by
    simp only [Bool.or_eq_true, Bool.not_eq_true', List.isEmpty_eq_false_iff_exists_mem, List.any_eq_true,
      List.mem_filter, Entry.placedAt_iff, Placement.at, beq_iff_eq]
  rw [← hheld]
  unfold CommitWork.vacate
  dsimp only
  split
  next h => simp [h, or_comm]
  next h => simp [h]

end Sys2Proof.Machine
end

section
/-! The foreign list through the offers of a commit (R97, R98, R101). -/

namespace Sys2Proof.Machine

/-- A foreign entry placed by an offer or kept, and sighted once more (R98). -/
def ForeignEntry.sightedBy (t : CountTable) (c : Commit) (o : Offer) (f : ForeignEntry) : ForeignEntry :=
  { f with
    sighted := satInc Config.count8Max f.sighted
    placement := if t.keeps c o = true then f.placement else o.placement c.target c.number }

/-- A foreign entry after some offers: one of them may have sighted it (R98). -/
def ForeignEntry.after (t : CountTable) (c : Commit) (done : List Offer) (f : ForeignEntry) : ForeignEntry :=
  match done.find? (fun o => decide (o.kind = .foreign) && decide (o.code = f.code)) with
  | none => f
  | some o => f.sightedBy t c o

/-- The entry that a newcomer adds to the foreign list (R98). -/
def Offer.newcomer (c : Commit) (o : Offer) : ForeignEntry :=
  { code := o.code, placement := o.placement c.target c.number, sighted := 1 }

/-- The room that the vacate leaves on the foreign list. -/
def CountTable.roomLeft (t : CountTable) (c : Commit) : Nat := Config.foreignListSize - (t.foreignLeft c).length

/-- The foreign list after some offers: the entries left by the vacate, and the newcomers it had room for (R98). -/
def CountTable.foreignAfter (t : CountTable) (c : Commit) (done : List Offer) : List ForeignEntry :=
  (t.foreignLeft c).map (ForeignEntry.after t c done) ++
    ((t.newcomersIn c done).take (t.roomLeft c)).map (Offer.newcomer c)

/-- The foreign overflow count after some offers: the newcomers without room are counted (R98). -/
def CountTable.overflowAfter (t : CountTable) (c : Commit) (done : List Offer) : Nat :=
  min Config.count8Max (t.overflow + ((t.newcomersIn c done).length - t.roomLeft c))

section
variable {t : CountTable} {c : Commit} {done rest : List Offer} {o : Offer} {f : ForeignEntry} {w w' : CommitWork}

@[simp] theorem ForeignEntry.after_code : (f.after t c done).code = f.code := by
  unfold ForeignEntry.after
  split <;> rfl

/-- An offer of another item leaves a foreign entry alone. -/
theorem ForeignEntry.after_concat_other (h : ¬ (o.kind = .foreign ∧ o.code = f.code)) :
    f.after t c (done ++ [o]) = f.after t c done := by
  have hfind : [o].find? (fun o => decide (o.kind = .foreign) && decide (o.code = f.code)) = none := by
    simpa using h
  rw [ForeignEntry.after, List.find?_append, hfind, Option.or_none]
  rfl

/-- The first offer of its code leaves a foreign entry as it stood, and then sights it. -/
theorem ForeignEntry.after_concat_same (hk : o.kind = .foreign) (hc : o.code = f.code)
    (hnew : ∀ x ∈ done, x.code ≠ o.code) :
    f.after t c done = f ∧ f.after t c (done ++ [o]) = f.sightedBy t c o := by
  have hnone : done.find? (fun x => decide (x.kind = .foreign) && decide (x.code = f.code)) = none := by
    rw [List.find?_eq_none]
    intro x hx
    simp [← hc, hnew x hx]
  have hsome : [o].find? (fun x => decide (x.kind = .foreign) && decide (x.code = f.code)) = some o := by
    simp [hk, hc]
  exact ⟨by rw [ForeignEntry.after, hnone], by rw [ForeignEntry.after, List.find?_append, hnone, hsome]; rfl⟩

theorem CountTable.newcomersIn_concat_of_not (h : ¬ (o.kind = .foreign ∧ t.meets c o = none)) :
    t.newcomersIn c (done ++ [o]) = t.newcomersIn c done := by
  unfold CountTable.newcomersIn
  simpa [List.filter_append] using h

theorem CountTable.newcomersIn_concat_of_newcomer (hk : o.kind = .foreign) (hm : t.meets c o = none) :
    t.newcomersIn c (done ++ [o]) = t.newcomersIn c done ++ [o] := by
  simp [CountTable.newcomersIn, hk, hm]

/-- No offer before the next has its code. -/
theorem CountTable.OffersNamed.code_next (h : t.OffersNamed c) (hoffers : c.offers = done ++ o :: rest) :
    ∀ x ∈ done, x.code ≠ o.code := by
  have hn := h.codes
  rw [hoffers, List.map_append] at hn
  exact fun x hx => (List.nodup_append.mp hn).2.2 _ (List.mem_map_of_mem hx) _ (by simp)

/-- A foreign offer meets the placement of the entry of its code that the vacate has left (R94, R98). -/
theorem CountTable.OffersNamed.meets_of_left (h : t.OffersNamed c) (hk : o.kind = .foreign)
    (hf : f ∈ t.foreignLeft c) (hc : f.code = o.code) : t.meets c o = some f.placement := by
  have hsome : ((t.foreignLeft c).find? (fun x => x.code == o.code)).isSome = true :=
    List.find?_isSome.mpr ⟨f, hf, by simpa using hc⟩
  obtain ⟨x, hx⟩ := Option.isSome_iff_exists.mp hsome
  have hxc : x.code = o.code := by simpa using List.find?_some hx
  have hxf : x = f := List.inj_on_of_nodup_map h.foreignCodes
    (List.mem_filter.mp (List.mem_of_find?_eq_some hx)).1 (List.mem_filter.mp hf).1 (hxc.trans hc.symm)
  rw [← h.start_placementOf o, CommitWork.placementOf_foreign hk, t.offersStart_foreign c, hx, hxf, Option.map_some]

/-- An offer that finds its foreign entry in the list sights that entry alone (R98). -/
theorem CountTable.OffersNamed.foreignAfter_found (h : t.OffersNamed c) (hoffers : c.offers = done ++ o :: rest)
    (hk : o.kind = .foreign) {p : Placement} (hm : t.meets c o = some p) :
    t.foreignAfter c (done ++ [o]) = (t.foreignAfter c done).map (fun y => if y.code == o.code then
      { y with
        placement := if t.keeps c o = true then p else o.placement c.target c.number
        sighted := satInc Config.count8Max y.sighted } else y) := by
  have hcode := h.code_next hoffers
  unfold CountTable.foreignAfter
  rw [CountTable.newcomersIn_concat_of_not (by simp [hm]), List.map_append, List.map_map, List.map_map]
  congr 1
  · refine List.map_congr_left (fun f hf => ?_)
    rw [Function.comp_apply, ForeignEntry.after_code]
    by_cases hc : f.code = o.code
    · obtain ⟨hbefore, hafter⟩ := ForeignEntry.after_concat_same (t := t) (c := c) hk hc.symm hcode
      have hp : f.placement = p := Option.some.inj ((h.meets_of_left hk hf hc).symm.trans hm)
      rw [hbefore, hafter, if_pos (by simpa using hc), ← hp]
      rfl
    · rw [ForeignEntry.after_concat_other (fun hn => hc hn.2.symm), if_neg (by simpa using hc)]
  · refine List.map_congr_left (fun x hx => ?_)
    have hx' : x ∈ done := (List.mem_filter.mp (List.mem_of_mem_take hx)).1
    exact (if_neg (by simpa [Offer.newcomer] using hcode x hx')).symm

/-- A newcomer sights no entry of the list (R98). -/
theorem CountTable.OffersNamed.after_newcomer (h : t.OffersNamed c) (hk : o.kind = .foreign)
    (hm : t.meets c o = none) : (t.foreignLeft c).map (ForeignEntry.after t c (done ++ [o])) =
      (t.foreignLeft c).map (ForeignEntry.after t c done) := by
  refine List.map_congr_left (fun f hf => ForeignEntry.after_concat_other (fun hc => ?_))
  exact nomatch hm.symm.trans (h.meets_of_left hk hf hc.2.symm)

/-- The next offer leaves the foreign list and the overflow count of the offers up to it (R98). -/
theorem CountTable.OffersNamed.foreign_next (h : t.OffersNamed c) (hw : t.WorkCounted c done w)
    (hoffers : c.offers = done ++ o :: rest) (ha : Applies t.geometry c t.entries o w w')
    (hforeign : w.foreign = t.foreignAfter c done) (hover : w.overflow = t.overflowAfter c done) :
    w'.foreign = t.foreignAfter c (done ++ [o]) ∧ w'.overflow = t.overflowAfter c (done ++ [o]) := by
  have hmeets := h.placementOf_next hw hoffers
  have hroom := hw.foreign
  have hsame (hn : ¬ (o.kind = .foreign ∧ t.meets c o = none)) :
      t.overflowAfter c (done ++ [o]) = t.overflowAfter c done := by
    rw [CountTable.overflowAfter, CountTable.newcomersIn_concat_of_not hn]
    rfl
  have hlisted (hk : o.kind ≠ .foreign) : w.foreign = t.foreignAfter c (done ++ [o]) ∧
      w.overflow = t.overflowAfter c (done ++ [o]) := by
    refine ⟨?_, hover.trans (hsame (fun hn => hk hn.1)).symm⟩
    rw [hforeign, CountTable.foreignAfter, CountTable.foreignAfter,
      CountTable.newcomersIn_concat_of_not (fun hn => hk hn.1)]
    exact congrArg (· ++ _) (List.map_congr_left (fun f _ =>
      (ForeignEntry.after_concat_other (fun hn => hk hn.1)).symm))
  cases ha with
  | lost r hk => exact hlisted (by simp [hk])
  | keptListed r e hk => exact hlisted (by simp [hk])
  | placedListed r e x hk => exact hlisted (by simp [hk])
  | keptForeign f hk hf ho =>
    rw [CommitWork.placementOf_foreign hk, hf, Option.map_some] at hmeets
    refine ⟨?_, hover.trans (hsame (by simp [← hmeets])).symm⟩
    rw [h.foreignAfter_found hoffers hk hmeets.symm, ← hforeign, if_pos ((offerOutcome_kept_iff o hmeets).mp ho)]
  | movedForeign f x hk hf ho hx =>
    rw [CommitWork.placementOf_foreign hk, hf, Option.map_some] at hmeets
    refine ⟨?_, hover.trans (hsame (by simp [← hmeets])).symm⟩
    rw [h.foreignAfter_found hoffers hk hmeets.symm, ← hforeign,
      if_neg (mt (offerOutcome_kept_iff o hmeets).mpr (ho ▸ hx))]
  | addedForeign hk hn hfree =>
    rw [CommitWork.placementOf_foreign hk, hn, Option.map_none] at hmeets
    have hlt : (t.newcomersIn c done).length < t.roomLeft c := by
      unfold CountTable.roomLeft
      omega
    simp only [CountTable.foreignAfter, CountTable.overflowAfter, h.after_newcomer hk hmeets.symm,
      CountTable.newcomersIn_concat_of_newcomer hk hmeets.symm] at hforeign hover ⊢
    rw [hforeign, hover, List.take_of_length_le hlt.le, List.take_of_length_le (by simpa using hlt)]
    refine ⟨by simp [Offer.newcomer], ?_⟩
    rw [List.length_append, List.length_singleton, Nat.sub_eq_zero_of_le hlt.le, Nat.sub_eq_zero_of_le hlt]
  | droppedForeign hk hn hfull =>
    rw [CommitWork.placementOf_foreign hk, hn, Option.map_none] at hmeets
    have hle : t.roomLeft c ≤ (t.newcomersIn c done).length := by
      unfold CountTable.roomLeft
      omega
    simp only [CountTable.foreignAfter, CountTable.overflowAfter, h.after_newcomer hk hmeets.symm,
      CountTable.newcomersIn_concat_of_newcomer hk hmeets.symm] at hforeign hover ⊢
    refine ⟨by rw [hforeign, List.take_append_of_le_length hle], ?_⟩
    rw [hover, List.length_append, List.length_singleton]
    unfold satInc
    split <;> omega

/-- After the last offer the foreign list and the overflow count are those of all offers (R98). -/
theorem CountTable.OffersNamed.foreign_applyOffers (h : t.OffersNamed c) (hover : t.overflow ≤ Config.count8Max) :
    (t.applyOffers c).foreign = t.foreignAfter c c.offers ∧
      (t.applyOffers c).overflow = t.overflowAfter c c.offers := by
  refine (t.applyOffers_induction c (P := fun done w => t.WorkCounted c done w ∧
    w.foreign = t.foreignAfter c done ∧ w.overflow = t.overflowAfter c done) ⟨h.start_counted, ?_, ?_⟩ ?_).2
  · have hleft : (t.foreignLeft c).map (ForeignEntry.after t c []) = t.foreignLeft c := List.map_id _
    simp [t.offersStart_foreign c, CountTable.foreignAfter, CountTable.newcomersIn, hleft]
  · have hstart : (t.offersStart c).overflow = t.overflow := by
      unfold CountTable.offersStart
      split <;> rfl
    simp [hstart, CountTable.overflowAfter, CountTable.newcomersIn, hover]
  · rintro done o rest w w' hoffers ⟨hw, hforeign, hoverflow⟩ ha
    exact ⟨h.step_counted hw hoffers ha, h.foreign_next hw hoffers ha hforeign hoverflow⟩

end

@[simp] theorem CountTable.commit_overflow (t : CountTable) (c : Commit) (w : CommitWork) :
    (t.commit c w).overflow = w.overflow := by
  unfold CountTable.commit
  rw [CountTable.moveCursor_eq]
  simp

/-- The table after a commit is executed. -/
theorem execCommit_table {s t : State} {c : Commit} (hphase : s.sweep.phase = .commit)
    (hflight : s.sweep.inFlight = some c) (hexec : exec .commit s = .next t) :
    t.table = s.table.commit c (s.table.applyOffers c) := by
  have ht := Host.Outcome.next.inj ((execCommit_inFlight hphase hflight).symm.trans hexec)
  rw [← ht, State.pump_table, State.commitEvent_table]

/-- Settles O57: a foreign offer and the vacate by their equations, and the list after the event by induction on
the offers. -/
theorem foreignOffersAndTheVacate : Obligations.ForeignOffersAndTheVacate := by
  refine ⟨?_, ?_, ?_⟩
  · intro g c before w o hk made heard n counted y
    have hfind (h : ∀ f ∈ w.foreign, f.code ≠ o.code) : w.foreign.find? (fun x => x.code == o.code) = none :=
      List.find?_eq_none.mpr (fun f hf => by simpa using h f hf)
    refine ⟨?_, fun hnew hroom => ?_, fun hnew hfull => ?_⟩
    · intro f hf weighed times
      refine ⟨fun hw hle => ?_, fun hw hlt => ?_, fun hw => ?_⟩
      · exact (CommitWork.applyOffer_keptForeign g c before hk hf (offerOutcome_some_of_weaker hw hle)).trans
          (by rw [Outcomes.count_foreign hk]; rfl)
      · exact (CommitWork.applyOffer_movedForeign g c before hk hf (offerOutcome_some_of_wins (fun _ => hlt))).trans
          (by rw [Outcomes.count_foreign hk]; rfl)
      · exact (CommitWork.applyOffer_movedForeign g c before hk hf
          (offerOutcome_some_of_wins (fun h => absurd h hw))).trans (by rw [Outcomes.count_foreign hk]; rfl)
    · exact (CommitWork.applyOffer_addedForeign g c before hk (hfind hnew) hroom).trans
        (by rw [Outcomes.count_foreign hk]; rfl)
    · exact (CommitWork.applyOffer_droppedForeign g c before hk (hfind hnew) (Nat.not_lt.mpr hfull)).trans
        (by rw [Outcomes.count_foreign hk]; rfl)
  · intro l w onIt y
    exact ⟨w.vacate_foreign l, w.vacate_entries l, fun x => w.mem_vacate_affected l x, rfl, rfl, rfl⟩
  · intro s t c hcap hcontrol hlist hsight hphase hflight hexec made sighted
    obtain ⟨hforeign, hover⟩ :=
      (State.offersNamed hlist hsight hflight).foreign_applyOffers hcap.foreign.2.1
    have hsighted : sighted = ForeignEntry.after s.table c c.offers := rfl
    have hlost : (s.table.newcomers c).length - (s.table.admitted c).length =
        (s.table.newcomersIn c c.offers).length - s.table.roomLeft c := by
      simp only [CountTable.admitted, CountTable.newcomersIn, CountTable.newcomers, CountTable.roomLeft,
        List.length_take]
      omega
    rw [execCommit_table hphase hflight hexec, CountTable.commit_foreign, CountTable.commit_overflow, hforeign,
      hover, hsighted, hlost]
    exact ⟨rfl, rfl⟩

end Sys2Proof.Machine
end

section
/-! What a commit does to each expected entry: the vacate, its own offers, the settling (R94 to R96, R99, R100). -/

namespace Sys2Proof.Machine

/-! ## One entry through the offers -/

/-- An expected entry as a commit works on it, and whether the commit has reached it. -/
structure EntryWork where
  entry   : Entry
  reached : Bool

/-- The entry before the first offer: a RECOUNT has vacated it from the target (R94). -/
def Entry.startWork (c : Commit) (e : Entry) : EntryWork :=
  if c.mode = .recount ∧ e.placedAt c.target = true then { entry := e.vacate c.target, reached := true }
  else { entry := e, reached := false }

/-- An offer of the entry's rank: kept elsewhere, or placed (R95, R96). -/
def EntryWork.offer (g : Option Geometry) (c : Commit) (x : EntryWork) (o : Offer) : EntryWork :=
  if offerOutcome g c.target o x.entry.placement = .kept then x
  else { entry := x.entry.accept (o.placement c.target c.number), reached := true }

/-- The offers of an entry's rank among some. -/
def Entry.ownOffers (done : List Offer) (e : Entry) : List Offer :=
  done.filter (fun o => decide (o.kind = .listed e.rank))

/-- The entry after some of the offers of a commit. -/
def Entry.workAfter (g : Option Geometry) (c : Commit) (done : List Offer) (e : Entry) : EntryWork :=
  (e.ownOffers done).foldl (EntryWork.offer g c) (e.startWork c)

/-- Step 2 changes the placement and RETURNED_SINCE alone (R96). -/
def Entry.PlacesOnly (e y : Entry) : Prop := y = { e with placement := y.placement, returned := y.returned }

section
variable {g : Option Geometry} {c : Commit} {done : List Offer} {o : Offer} {e : Entry}

theorem EntryWork.offer_placesOnly {x : EntryWork} (h : e.PlacesOnly x.entry) :
    e.PlacesOnly (x.offer g c o).entry := by
  unfold EntryWork.offer
  split
  · exact h
  · unfold Entry.PlacesOnly Entry.accept
    dsimp only
    rw [h]

theorem Entry.workAfter_placesOnly (g : Option Geometry) (c : Commit) (done : List Offer) (e : Entry) :
    (e.startWork c).entry.PlacesOnly (e.workAfter g c done).entry := by
  unfold Entry.workAfter
  induction e.ownOffers done using List.reverseRecOn with
  | nil => rfl
  | append_singleton own o ih =>
    rw [List.foldl_concat]
    exact EntryWork.offer_placesOnly ih

theorem Entry.startWork_rank : (e.startWork c).entry.rank = e.rank := by
  unfold Entry.startWork Entry.vacate
  split_ifs <;> rfl

theorem Entry.workAfter_rank : (e.workAfter g c done).entry.rank = e.rank := by
  rw [e.workAfter_placesOnly g c done]
  exact Entry.startWork_rank

/-- The next offer is the entry's own, or leaves it alone. -/
theorem Entry.workAfter_concat : e.workAfter g c (done ++ [o]) =
    if o.kind = .listed e.rank then (e.workAfter g c done).offer g c o else e.workAfter g c done := by
  unfold Entry.workAfter Entry.ownOffers
  split
  next h => simp [h]
  next h => simp [h]

end

/-! ## The entries through the offers -/

section
variable {t : CountTable} {c : Commit} {done : List Offer} {o : Offer} {w w' : CommitWork}

/-- The work of a commit after some of its offers, entry by entry. -/
structure CountTable.EntriesWorked (t : CountTable) (c : Commit) (done : List Offer) (w : CommitWork) : Prop where
  entries : w.entries = t.entries.map (fun e => (e.workAfter t.geometry c done).entry)
  reached : ∀ e ∈ t.entries, e.rank ∈ w.reached ↔ (e.workAfter t.geometry c done).reached = true

theorem CountTable.start_entriesWorked (hn : (t.entries.map (·.rank)).Nodup) :
    t.EntriesWorked c [] (t.offersStart c) := by
  have hwork (e : Entry) : e.workAfter t.geometry c [] = e.startWork c := rfl
  unfold CountTable.offersStart
  split
  next hm =>
    refine ⟨List.map_congr_left (fun e _ => ?_), fun e he => ?_⟩
    · by_cases hat : e.placedAt c.target = true <;> simp [hwork, Entry.startWork, Entry.vacate, hm, hat]
    · have hreached : e.rank ∈ (t.commitStart.vacate c.target).reached ↔ e.placedAt c.target = true := by
        simp only [CommitWork.vacate, CountTable.commitStart, List.append_nil, List.mem_map, List.mem_filter]
        refine ⟨?_, fun hat => ⟨e, ⟨he, hat⟩, rfl⟩⟩
        rintro ⟨x, ⟨hx, hat⟩, hr⟩
        exact List.inj_on_of_nodup_map hn hx he hr ▸ hat
      rw [hreached, hwork]
      by_cases hat : e.placedAt c.target = true <;> simp [Entry.startWork, hm, hat]
  next hm =>
    have hstart (e : Entry) : e.startWork c = { entry := e, reached := false } := by simp [Entry.startWork, hm]
    refine ⟨?_, fun e _ => ?_⟩
    · simp [hwork, hstart, CountTable.commitStart]
    · simp [hwork, hstart, CountTable.commitStart]

/-- The entry that a search by rank finds in the work is that of the table's entry of the rank. -/
theorem CountTable.EntriesWorked.entry_of_find (hw : t.EntriesWorked c done w)
    (hn : (t.entries.map (·.rank)).Nodup) {r : Nat} {y e : Entry}
    (hy : w.entries.find? (fun e => e.rank == r) = some y) (he : e ∈ t.entries) (hr : e.rank = r) :
    (e.workAfter t.geometry c done).entry = y := by
  have hyr : y.rank = r := by simpa using List.find?_some hy
  have hmem := List.mem_of_find?_eq_some hy
  rw [hw.entries] at hmem
  obtain ⟨x, hx, rfl⟩ := List.mem_map.mp hmem
  rw [Entry.workAfter_rank] at hyr
  rw [List.inj_on_of_nodup_map hn hx he (hyr.trans hr.symm)]

/-- An offer that leaves the entries as they are has left each entry's work as it was. -/
theorem CountTable.EntriesWorked.unchanged (hw : t.EntriesWorked c done w)
    (h : ∀ e ∈ t.entries, e.workAfter t.geometry c (done ++ [o]) = e.workAfter t.geometry c done)
    (hentries : w'.entries = w.entries) (hreached : w'.reached = w.reached) :
    t.EntriesWorked c (done ++ [o]) w' where
  entries := by
    rw [hentries, hw.entries]
    exact List.map_congr_left (fun e he => by rw [h e he])
  reached e he := by rw [hreached, h e he, hw.reached e he]

theorem CountTable.EntriesWorked.next (hw : t.EntriesWorked c done w) (hn : (t.entries.map (·.rank)).Nodup)
    (ha : Applies t.geometry c t.entries o w w') : t.EntriesWorked c (done ++ [o]) w' := by
  have hother {e : Entry} (hk : o.kind ≠ .listed e.rank) :
      e.workAfter t.geometry c (done ++ [o]) = e.workAfter t.geometry c done := by
    rw [Entry.workAfter_concat, if_neg hk]
  cases ha with
  | lost r hk hnone =>
    refine hw.unchanged (fun e he => hother (fun h => ?_)) rfl rfl
    have hr : e.rank = r := SightingKind.listed.inj (h.symm.trans hk)
    refine List.find?_eq_none.mp hnone (e.workAfter t.geometry c done).entry ?_ (by simp [Entry.workAfter_rank, hr])
    rw [hw.entries]
    exact List.mem_map_of_mem he
  | keptListed r y hk hy ho =>
    refine hw.unchanged (fun e he => ?_) rfl rfl
    by_cases hr : e.rank = r
    · rw [Entry.workAfter_concat, if_pos (hr ▸ hk), EntryWork.offer, hw.entry_of_find hn hy he hr, if_pos ho]
    · exact hother (fun h => hr (SightingKind.listed.inj (h.symm.trans hk)))
  | placedListed r y x hk hy ho hx =>
    have hown {e : Entry} (he : e ∈ t.entries) (hr : e.rank = r) : e.workAfter t.geometry c (done ++ [o]) =
        { entry := (e.workAfter t.geometry c done).entry.accept (o.placement c.target c.number)
          reached := true } := by
      rw [Entry.workAfter_concat, if_pos (hr ▸ hk), EntryWork.offer, hw.entry_of_find hn hy he hr, ho, if_neg hx]
    have hne {e : Entry} (hr : e.rank ≠ r) : o.kind ≠ .listed e.rank :=
      fun h => hr (SightingKind.listed.inj (h.symm.trans hk))
    refine ⟨?_, fun e he => ?_⟩
    · rw [hw.entries, List.map_map]
      refine List.map_congr_left (fun e he => ?_)
      rw [Function.comp_apply, Entry.workAfter_rank]
      by_cases hr : e.rank = r
      · rw [hown he hr, if_pos (by simpa using hr)]
      · rw [hother (hne hr), if_neg (by simpa using hr)]
    · rw [List.mem_cons, hw.reached e he]
      by_cases hr : e.rank = r
      · simp [hown he hr, hr]
      · simp [hother (hne hr), hr]
  | keptForeign f hk | movedForeign f x hk | addedForeign hk | droppedForeign hk =>
    exact hw.unchanged (fun e _ => hother (by simp [hk])) rfl rfl

theorem CountTable.applyOffers_entriesWorked (hn : (t.entries.map (·.rank)).Nodup) (c : Commit) :
    t.EntriesWorked c c.offers (t.applyOffers c) :=
  t.applyOffers_induction c (P := t.EntriesWorked c) (CountTable.start_entriesWorked hn)
    (fun _ _ _ _ _ _ hw ha => hw.next hn ha)

end

/-! ## The entry before its offer, and after it -/

/-- The vacate of a RECOUNT takes the entry's placement (R94). -/
def Commit.Vacates (c : Commit) (e : Entry) : Prop := c.mode = .recount ∧ ∃ p, e.placement = some p ∧ p.loc = c.target

/-- An offer wins over what an item holds: it is stronger than a placement that it is weighed against (R95). -/
def Offer.WinsOver (g : Option Geometry) (target : Loc) (held : Option Placement) (o : Offer) : Prop :=
  ∀ p, held = some p → WeighedAt g target p.loc → p.strength < o.strength

section
variable {g : Option Geometry} {c : Commit} {o : Offer} {e : Entry}

theorem offerOutcome_eq_kept_iff {target : Loc} {held : Option Placement} :
    offerOutcome g target o held = .kept ↔ ¬ o.WinsOver g target held := by
  cases held with
  | none => simp [offerOutcome, Offer.WinsOver]
  | some p =>
    have hwins : o.WinsOver g target (some p) ↔ offerWins g target o.strength p = true := by
      simp [Offer.WinsOver, offerWins_iff]
    rw [hwins]
    by_cases h : offerWins g target o.strength p = true <;> simp [offerOutcome, h]

/-- A vacated entry before its offer (R94, R126). -/
theorem Entry.startWork_of_vacated (h : c.Vacates e) : e.startWork c =
    { entry := { e with placement := none, shelfStanding := .none, lentSince := false }, reached := true } := by
  have hat : e.placedAt c.target = true := Entry.placedAt_iff.mpr h.2
  rw [Entry.startWork, if_pos ⟨h.1, hat⟩, Entry.vacate, if_pos hat]

/-- An entry that stands before its offer. -/
theorem Entry.startWork_of_stands (h : ¬ c.Vacates e) : e.startWork c = { entry := e, reached := false } :=
  if_neg (fun hn => h ⟨hn.1, Entry.placedAt_iff.mp hn.2⟩)

/-- The vacate changes the placement, the shelf standing and LENT_SINCE alone (R94). -/
theorem Entry.startWork_eq (c : Commit) (e : Entry) : (e.startWork c).entry = { e with
    placement := (e.startWork c).entry.placement, shelfStanding := (e.startWork c).entry.shelfStanding
    lentSince := (e.startWork c).entry.lentSince } := by
  by_cases h : c.Vacates e
  · rw [Entry.startWork_of_vacated h]
  · rw [Entry.startWork_of_stands h]

/-- An entry without an offer. -/
theorem Entry.workAfter_of_none {done : List Offer} (h : e.ownOffers done = []) :
    e.workAfter g c done = e.startWork c := by
  rw [Entry.workAfter, h, List.foldl_nil]

/-- An entry whose one offer wins (R96). -/
theorem Entry.workAfter_of_placed {done : List Offer} (h : e.ownOffers done = [o])
    (hwins : o.WinsOver g c.target (e.startWork c).entry.placement) : e.workAfter g c done =
      { entry := (e.startWork c).entry.accept (o.placement c.target c.number), reached := true } := by
  rw [Entry.workAfter, h, List.foldl_cons, List.foldl_nil, EntryWork.offer,
    if_neg (fun hk => offerOutcome_eq_kept_iff.mp hk hwins)]

/-- An entry whose one offer is kept elsewhere (R95). -/
theorem Entry.workAfter_of_kept {done : List Offer} (h : e.ownOffers done = [o])
    (hloses : ¬ o.WinsOver g c.target (e.startWork c).entry.placement) : e.workAfter g c done = e.startWork c := by
  rw [Entry.workAfter, h, List.foldl_cons, List.foldl_nil, EntryWork.offer,
    if_pos (offerOutcome_eq_kept_iff.mpr hloses)]

/-- The commit places the entry: its one offer wins (R96). -/
def Entry.IsPlaced (g : Option Geometry) (c : Commit) (e : Entry) : Prop :=
  ∃ o, e.ownOffers c.offers = [o] ∧ o.WinsOver g c.target (e.startWork c).entry.placement

/-- An entry with at most one offer that the commit does not place. -/
theorem Entry.workAfter_of_not_placed (hone : (e.ownOffers c.offers).length ≤ 1) (h : ¬ e.IsPlaced g c) :
    e.workAfter g c c.offers = e.startWork c := by
  rcases hown : e.ownOffers c.offers with _ | ⟨o, _ | ⟨o', own⟩⟩
  · exact Entry.workAfter_of_none hown
  · exact Entry.workAfter_of_kept hown (fun hw => h ⟨o, hown, hw⟩)
  · simp [hown] at hone

end

/-! ## The settled entry (R99, R100) -/

/-- Steps 3 and 4 change the shelf standing, IN_SWEEP and RETURNED_SINCE alone. -/
theorem Entry.settle_eq (c : Commit) (w : CommitWork) (e : Entry) : e.settle c w = { e with
    shelfStanding := (e.settle c w).shelfStanding, inSweep := (e.settle c w).inSweep
    returned := (e.settle c w).returned } := by
  unfold Entry.settle
  rw [Entry.convertReturned_eq, Entry.clearInSweep_eq, Entry.settleStanding_eq]

theorem Entry.settle_inSweep (c : Commit) (w : CommitWork) (e : Entry) :
    (e.settle c w).inSweep = (e.inSweep && decide (e.rank ∉ c.ranks)) := by
  rw [(e.settle_marks c w).1]
  by_cases h : e.rank ∈ c.ranks <;> simp [h]

theorem Entry.expectedAt_iff {e : Entry} {l : Loc} : e.expectedAt l = true ↔ l = .shelf e.shelf := by
  cases l with
  | shelf u => simpa [Entry.expectedAt] using eq_comm
  | loose i => simp [Entry.expectedAt]

theorem Returned.convert_eq (r : Returned) : r.convert = if r = .setDuring then .set else .clear := by
  cases r <;> rfl

/-- An unplaced entry of the target shelf is converted (R100). -/
theorem Entry.settle_returned_of_unplaced {c : Commit} {e : Entry} (w : CommitWork) (hp : e.placement = none)
    (ht : c.target = .shelf e.shelf) :
    (e.settle c w).returned = if e.returned = .setDuring then .set else .clear := by
  rw [(e.settle_marks c w).2.1, if_pos (by simp [hp, Entry.expectedAt_iff.mpr ht]), Returned.convert_eq]

/-- An entry that is placed, or is of another shelf than the target, keeps RETURNED_SINCE (R100). -/
theorem Entry.settle_returned_of_other {c : Commit} {e : Entry} (w : CommitWork)
    (h : e.placement ≠ none ∨ c.target ≠ .shelf e.shelf) : (e.settle c w).returned = e.returned := by
  rw [(e.settle_marks c w).2.1, if_neg]
  rw [Bool.and_eq_true, Entry.expectedAt_iff, Option.isNone_iff_eq_none]
  exact fun hn => h.elim (· hn.2) (· hn.1)

/-- What no commit changes of an entry. -/
def Entry.fixed (e : Entry) : Nat × ItemCode × Nat × Bool × CircStatus × Standing :=
  (e.rank, e.code, e.shelf, e.watch, e.status, e.runStanding)

theorem Entry.eq_of_fixed {e y : Entry} (h : y.fixed = e.fixed) : y = { e with
    placement := y.placement, shelfStanding := y.shelfStanding, inSweep := y.inSweep
    lentSince := y.lentSince, returned := y.returned } := by
  cases e
  cases y
  simpa [Entry.fixed] using h

/-- A commit changes nothing of an entry but its placement, its shelf standing and the three marks. -/
theorem Entry.settle_workAfter_fixed (g : Option Geometry) (c : Commit) (done : List Offer) (w : CommitWork)
    (e : Entry) : ((e.workAfter g c done).entry.settle c w).fixed = e.fixed := by
  rw [Entry.settle_eq, Entry.workAfter_placesOnly, Entry.startWork_eq]
  rfl

/-- An entry of the work awaits a job exactly when it is on an affected shelf with a position (R99). -/
theorem State.LocationsSound.standsAffected_iff {s : State} (h : s.LocationsSound) (hcap : s.Capacities)
    {c : Commit} (ht : s.table.hasLoc c.target = true) {y : Entry} (hy : y ∈ (s.table.applyOffers c).entries) :
    y.standsAffected (s.table.applyOffers c).affected = true ↔
      ∃ p u, y.placement = some p ∧ p.loc = .shelf u ∧ p.position ≠ none ∧
        u ∈ (s.table.applyOffers c).affectedShelves := by
  rw [Entry.standsAffected_iff]
  refine exists_congr (fun p => exists_congr (fun u => and_congr_right (fun hp => and_congr_right (fun hl => ?_))))
  have hloc : s.table.hasLoc (.shelf u) = true := hl ▸ h.work_hasLoc ht (.inl ⟨y, hy, hp⟩)
  rw [CommitWork.mem_affectedShelves_of_hasLoc hcap.table hloc, Option.isSome_iff_ne_none]

theorem execCommit_jobs {s t : State} {c : Commit} (hphase : s.sweep.phase = .commit)
    (hflight : s.sweep.inFlight = some c) (hexec : exec .commit s = .next t) :
    t.order.jobs = (s.table.applyOffers c).affectedShelves := by
  have ht := Host.Outcome.next.inj ((execCommit_inFlight hphase hflight).symm.trans hexec)
  rw [← ht, State.pump_order, State.commitEvent_order, OrderUnit.beginShelf_jobs]

/-! ## The entry after the commit -/

/-- An expected entry after a commit: worked on by its own offers, and settled. -/
def Entry.committed (g : Option Geometry) (c : Commit) (w : CommitWork) (e : Entry) : Entry :=
  (e.workAfter g c c.offers).entry.settle c w

section
variable {g : Option Geometry} {c : Commit} {w : CommitWork} {o : Offer} {e : Entry}

theorem Entry.committed_placement :
    (e.committed g c w).placement = (e.workAfter g c c.offers).entry.placement :=
  Entry.settle_placement c w _

/-- IN_SWEEP is cleared for the ranks sighted (R99). -/
theorem Entry.committed_inSweep :
    (e.committed g c w).inSweep = (e.inSweep && decide (e.rank ∉ c.ranks)) := by
  rw [Entry.committed, Entry.settle_inSweep, Entry.workAfter_rank, e.workAfter_placesOnly, Entry.startWork_eq]

/-- LENT_SINCE is that of the entry before its offer (R96, R126). -/
theorem Entry.committed_lentSince : (e.committed g c w).lentSince = (e.startWork c).entry.lentSince := by
  rw [Entry.committed, (Entry.settle_marks c w _).2.2.1, e.workAfter_placesOnly]

/-- An entry placed by its one offer has RETURNED_SINCE CLEAR (R96). -/
theorem Entry.committed_returned_of_placed (h : e.IsPlaced g c) : (e.committed g c w).returned = .clear := by
  obtain ⟨o, hown, hw⟩ := h
  rw [Entry.committed, Entry.workAfter_of_placed hown hw,
    Entry.settle_returned_of_other w (.inl (Option.some_ne_none _))]
  rfl

/-- An entry left unplaced on its own shelf is converted (R100). -/
theorem Entry.committed_returned_of_unplaced (hone : (e.ownOffers c.offers).length ≤ 1) (h : ¬ e.IsPlaced g c)
    (hp : (e.startWork c).entry.placement = none) (ht : c.target = .shelf e.shelf) :
    (e.committed g c w).returned = if e.returned = .setDuring then .set else .clear := by
  rw [Entry.committed, Entry.workAfter_of_not_placed hone h,
    Entry.settle_returned_of_unplaced w hp (by rw [Entry.startWork_eq]; exact ht), Entry.startWork_eq]

/-- An entry not placed anew keeps RETURNED_SINCE while it has a placement or is of another shelf (R100). -/
theorem Entry.committed_returned_of_other (hone : (e.ownOffers c.offers).length ≤ 1) (h : ¬ e.IsPlaced g c)
    (hother : (e.startWork c).entry.placement ≠ none ∨ c.target ≠ .shelf e.shelf) :
    (e.committed g c w).returned = e.returned := by
  have hshelf : (e.startWork c).entry.shelf = e.shelf := by rw [Entry.startWork_eq]
  rw [Entry.committed, Entry.workAfter_of_not_placed hone h,
    Entry.settle_returned_of_other w (by rwa [hshelf]), Entry.startWork_eq]

/-- The commit has reached an entry that it vacated or placed (R99). -/
theorem Entry.workAfter_reached (hone : (e.ownOffers c.offers).length ≤ 1) (h : c.Vacates e ∨ e.IsPlaced g c) :
    (e.workAfter g c c.offers).reached = true := by
  by_cases hp : e.IsPlaced g c
  · obtain ⟨o, hown, hw⟩ := hp
    rw [Entry.workAfter_of_placed hown hw]
  · rw [Entry.workAfter_of_not_placed hone hp, Entry.startWork_of_vacated (h.resolve_right hp)]

/-- The commit leaves an entry that it neither vacates nor places as it was, up to the settling. -/
theorem Entry.workAfter_untouched (hone : (e.ownOffers c.offers).length ≤ 1) (hv : ¬ c.Vacates e)
    (hp : ¬ e.IsPlaced g c) : e.workAfter g c c.offers = { entry := e, reached := false } := by
  rw [Entry.workAfter_of_not_placed hone hp, Entry.startWork_of_stands hv]

/-- An entry that awaits no job: NONE when the commit has reached it, else as it stood (R99). -/
theorem Entry.committed_standing (ha : ¬ (e.workAfter g c c.offers).entry.standsAffected w.affected = true)
    (hr : e.rank ∈ w.reached ↔ (e.workAfter g c c.offers).reached = true) :
    (e.committed g c w).shelfStanding = if (e.workAfter g c c.offers).reached = true then .none
      else (e.workAfter g c c.offers).entry.shelfStanding := by
  rw [Entry.committed, (Entry.settle_standings c w _).1, if_neg ha, Entry.workAfter_rank]
  simp only [hr]

end

/-- The entries of the table after a commit is executed. -/
theorem execCommit_entries {s t : State} {c : Commit} (hlist : s.ListSound) (hphase : s.sweep.phase = .commit)
    (hflight : s.sweep.inFlight = some c) (hexec : exec .commit s = .next t) : t.table.entries =
      s.table.entries.map (Entry.committed s.table.geometry c (s.table.applyOffers c)) := by
  rw [execCommit_table hphase hflight hexec, CountTable.commit_entries,
    (CountTable.applyOffers_entriesWorked hlist.ranks_nodup c).entries, List.map_map]
  rfl

/-- Settles O55: each entry of the table after the event is that of the table before, vacated, worked on by its own
offers, and settled. -/
theorem commitOnAnExpectedEntry : Obligations.CommitOnAnExpectedEntry := by
  intro s t c hcap hcontrol hlist hloc hphase hflight hexec
  obtain ⟨hworked, hreached⟩ := CountTable.applyOffers_entriesWorked hlist.ranks_nodup c
  have hentries := execCommit_entries hlist hphase hflight hexec
  refine ⟨by simp [hentries], ?_⟩
  intro i e e' he he' own vacated held weighed wins placed awaiting
  have hmem : e ∈ s.table.entries := List.mem_of_getElem? he
  rw [hentries, List.getElem?_map, he, Option.map_some, Option.some.injEq] at he'
  have hheld : (e.startWork c).entry.placement = held := by
    by_cases hv : c.Vacates e
    · exact (congrArg (·.entry.placement) (Entry.startWork_of_vacated hv)).trans (if_pos hv).symm
    · exact (congrArg (·.entry.placement) (Entry.startWork_of_stands hv)).trans (if_neg hv).symm
  have hwins (o : Offer) : wins o ↔ o.WinsOver s.table.geometry c.target (e.startWork c).entry.placement := by
    rw [hheld]
    exact Iff.rfl
  have hplaced : placed ↔ e.IsPlaced s.table.geometry c := by
    unfold Entry.IsPlaced
    rw [hheld]
    exact Iff.rfl
  have hawaiting : awaiting ↔ (e.workAfter s.table.geometry c c.offers).entry.standsAffected
      (s.table.applyOffers c).affected = true := by
    rw [hloc.standsAffected_iff hcap (hloc.commitTarget hcontrol hphase hflight).2
      (hworked ▸ List.mem_map_of_mem hmem), ← Entry.committed_placement (w := s.table.applyOffers c), he',
      ← execCommit_jobs hphase hflight hexec]
  rw [← he']
  refine ⟨Entry.eq_of_fixed (Entry.settle_workAfter_fixed _ c _ _ e), fun hown => ?_, fun o hown hw => ?_,
    fun o hown hl => ?_, Entry.committed_inSweep, fun hone => ⟨fun hv => ?_, fun hv => ?_, fun hp => ?_,
      fun hp hnone ht => ?_, fun hp hother => ?_, fun ha => ?_, fun ha hgone => ?_, fun ha hv hp => ?_⟩⟩
  · rw [Entry.committed_placement, Entry.workAfter_of_none hown, hheld]
  · rw [Entry.committed_placement, Entry.workAfter_of_placed hown ((hwins o).mp hw)]
    rfl
  · rw [Entry.committed_placement, Entry.workAfter_of_kept hown (mt (hwins o).mpr hl), hheld]
  · rw [Entry.committed_lentSince, Entry.startWork_of_vacated hv]
  · rw [Entry.committed_lentSince, Entry.startWork_of_stands hv]
  · exact Entry.committed_returned_of_placed (hplaced.mp hp)
  · exact Entry.committed_returned_of_unplaced hone (mt hplaced.mpr hp) (hheld.trans hnone) ht
  · exact Entry.committed_returned_of_other hone (mt hplaced.mpr hp) (by rwa [hheld])
  · rw [Entry.committed, (Entry.settle_standings c _ _).1, if_pos (hawaiting.mp ha)]
  · rw [Entry.committed_standing (mt hawaiting.mpr ha) (hreached e hmem),
      if_pos (Entry.workAfter_reached hone (hgone.imp_right hplaced.mp))]
  · rw [Entry.committed_standing (mt hawaiting.mpr ha) (hreached e hmem),
      Entry.workAfter_untouched hone hv (mt hplaced.mpr hp), if_neg Bool.false_ne_true]

end Sys2Proof.Machine
end

section
/-! The sequence of a shelf: its positioned expected entries, by bucket and then by rank (R103). -/

namespace Sys2Proof.Machine

/-! ## Keys (R92, R103) -/

/-- The order of a sequence on buckets and ranks. -/
def KeyLt (a b : Nat × Nat) : Prop := a.1 < b.1 ∨ (a.1 = b.1 ∧ a.2 < b.2)

theorem KeyLt.asymm {a b : Nat × Nat} (h : KeyLt a b) : ¬ KeyLt b a := by
  unfold KeyLt at *
  omega

theorem keyLe_iff {a b : Nat × Nat} : keyLe a b = true ↔ KeyLt a b ∨ (a.1 = b.1 ∧ a.2 = b.2) := by
  simp only [keyLe, KeyLt, Bool.or_eq_true, Bool.and_eq_true, decide_eq_true_eq, beq_iff_eq]
  omega

/-- The keys sorted. -/
theorem pairwise_keyLe_insertionSort (keys : List (Nat × Nat)) :
    (keys.insertionSort (fun a b => keyLe a b = true)).Pairwise (fun a b => keyLe a b = true) := by
  have : Std.Total (fun a b : Nat × Nat => keyLe a b = true) :=
    ⟨fun a b => by simp only [keyLe_iff, KeyLt]; omega⟩
  have : IsTrans (Nat × Nat) (fun a b => keyLe a b = true) :=
    ⟨fun a b c => by simp only [keyLe_iff, KeyLt]; omega⟩
  exact List.pairwise_insertionSort _ keys

/-- An entry's key: the bucket of its position on the shelf, and its rank. -/
theorem Entry.sequenceKey_of_placed {e : Entry} {p : Placement} {t x : Nat} (hp : e.placement = some p)
    (hl : p.loc = .shelf t) (hx : p.position = some x) (tolerance : Nat) :
    e.sequenceKey tolerance t = some (bucket tolerance x, e.rank) := by
  simp [Entry.sequenceKey, hp, hx, hl]

theorem Entry.sequenceKey_rank {e : Entry} {tolerance t : Nat} {k : Nat × Nat}
    (h : e.sequenceKey tolerance t = some k) : k.2 = e.rank := by
  unfold Entry.sequenceKey at h
  repeat' split at h
  all_goals cases h
  rfl

/-! ## The sequence (R103) -/

/-- In a list in order whose values differ, one value stands before another exactly when the order says so. -/
theorem idxOf_map_lt_iff {α : Type} {S : α → α → Prop} {f : α → Nat} {l : List α} (hl : l.Pairwise S)
    (hn : (l.map f).Nodup) (hasymm : ∀ a b, S a b → ¬ S b a) {a b : α} (ha : a ∈ l) (hb : b ∈ l) :
    (l.map f).idxOf (f a) < (l.map f).idxOf (f b) ↔ S a b := by
  obtain ⟨i, hi, rfl⟩ := List.mem_iff_getElem.mp ha
  obtain ⟨j, hj, rfl⟩ := List.mem_iff_getElem.mp hb
  have hidx (n : Nat) (h : n < l.length) : (l.map f).idxOf (f l[n]) = n := by
    have hget := hn.idxOf_getElem n (by simpa using h)
    rwa [List.getElem_map] at hget
  have hsorted := List.pairwise_iff_getElem.mp hl
  rw [hidx i hi, hidx j hj]
  refine ⟨hsorted i j hi hj, fun hS => ?_⟩
  by_contra hle
  rcases Nat.eq_or_lt_of_le (Nat.le_of_not_lt hle) with rfl | hlt
  · exact hasymm _ _ hS hS
  · exact hasymm _ _ hS (hsorted j i hj hi hlt)

section
variable {entries : List Entry} (hn : (entries.map (·.rank)).Nodup) (tolerance t : Nat)
include hn

/-- Each rank stands in the sequence once. -/
theorem shelfSequence_nodup : (shelfSequence entries tolerance t).Nodup := by
  have hkeys : ((entries.filterMap (Entry.sequenceKey tolerance t)).map (·.2)).Nodup := by
    refine List.pairwise_map.mpr (List.pairwise_filterMap.mpr ((List.pairwise_map.mp hn).imp ?_))
    intro e f hne k hk k' hk'
    rwa [Entry.sequenceKey_rank hk, Entry.sequenceKey_rank hk']
  exact ((List.perm_insertionSort _ _).map _).nodup_iff.mpr hkeys

/-- The keys of a sequence stand in strict order, since ranks are unique. -/
theorem shelfKeys_pairwise :
    ((entries.filterMap (Entry.sequenceKey tolerance t)).insertionSort (fun a b => keyLe a b = true)).Pairwise
      KeyLt := by
  refine ((pairwise_keyLe_insertionSort _).and (List.pairwise_map.mp (shelfSequence_nodup hn tolerance t))).imp ?_
  rintro a b ⟨hle, hne⟩
  exact (keyLe_iff.mp hle).resolve_right (fun h => hne h.2)

end

/-- Settles O17: sorting keeps the ranks and puts the keys in strict order. -/
theorem shelfSequenceOrder : Obligations.ShelfSequenceOrder := by
  intro entries tolerance t hn sequence
  refine ⟨shelfSequence_nodup hn tolerance t, fun r => mem_shelfSequence, ?_⟩
  intro e he f hf p q x y hep hfq hpl hql hpx hqy
  have hkey {d : Entry} {w : Placement} {z : Nat} (hd : d ∈ entries) (hw : d.placement = some w)
      (hl : w.loc = .shelf t) (hz : w.position = some z) : (bucket tolerance z, d.rank) ∈
        (entries.filterMap (Entry.sequenceKey tolerance t)).insertionSort (fun a b => keyLe a b = true) :=
    (List.mem_insertionSort _).mpr (List.mem_filterMap.mpr ⟨d, hd, d.sequenceKey_of_placed hw hl hz tolerance⟩)
  exact idxOf_map_lt_iff (f := Prod.snd) (shelfKeys_pairwise hn tolerance t) (shelfSequence_nodup hn tolerance t)
    (fun _ _ => KeyLt.asymm) (hkey he hep hpl hpx) (hkey hf hfq hql hqy)

end Sys2Proof.Machine
end

section
/-! The pile walk and its read-back: the piles' tops rise, and the read-back is a longest rising choice (R105, R106). -/

namespace Sys2Proof.Machine

/-! ## The row of piles (R105) -/

/-- The top ranks of a row of piles. -/
def tops (row : List (List Nat)) : List Nat := row.map (fun pile => pile.headD 0)

/-- The number of piles whose top is smaller than a rank: those it is not laid on. -/
def passed (r : Nat) (row : List (List Nat)) : Nat := row.countP (fun pile => pile.headD 0 < r)

/-- A rank lies on the pile of an index. -/
def OnPile (row : List (List Nat)) (i x : Nat) : Prop := ∃ pile, row[i]? = some pile ∧ x ∈ pile

/-- No pile is empty, and the tops rise along the row. -/
structure RowSound (row : List (List Nat)) : Prop where
  nonempty : ∀ pile ∈ row, pile ≠ []
  rising : (tops row).Pairwise (· < ·)

theorem OnPile.zero_cons {pile : List Nat} {rest : List (List Nat)} {x : Nat} :
    OnPile (pile :: rest) 0 x ↔ x ∈ pile := by
  simp [OnPile]

theorem OnPile.succ_cons {pile : List Nat} {rest : List (List Nat)} {i x : Nat} :
    OnPile (pile :: rest) (i + 1) x ↔ OnPile rest i x := by
  simp [OnPile]

theorem OnPile.lt_length {row : List (List Nat)} {i x : Nat} (h : OnPile row i x) : i < row.length := by
  obtain ⟨pile, hpile, -⟩ := h
  exact (List.getElem?_eq_some_iff.mp hpile).1

/-- Every pile of a sound row has a top. -/
theorem RowSound.exists_top {row : List (List Nat)} (h : RowSound row) {i : Nat} (hi : i < row.length) :
    ∃ top below, row[i]? = some (top :: below) := by
  obtain ⟨top, below, hpile⟩ := List.exists_cons_of_ne_nil (h.nonempty row[i] (List.getElem_mem hi))
  exact ⟨top, below, by simp [hi, hpile]⟩

theorem OnPile.of_top {row : List (List Nat)} {i top : Nat} {below : List Nat}
    (h : row[i]? = some (top :: below)) : OnPile row i top :=
  ⟨_, h, List.mem_cons_self⟩

theorem RowSound.onPile_of_mem_tops {row : List (List Nat)} (h : RowSound row) {x : Nat} (hx : x ∈ tops row) :
    ∃ i, OnPile row i x := by
  obtain ⟨pile, hpile, rfl⟩ := List.mem_map.mp hx
  obtain ⟨i, hi⟩ := List.mem_iff_getElem?.mp hpile
  obtain ⟨top, below, rfl⟩ := List.exists_cons_of_ne_nil (h.nonempty pile hpile)
  exact ⟨i, .of_top hi⟩

theorem RowSound.cons_iff {pile : List Nat} {rest : List (List Nat)} : RowSound (pile :: rest) ↔
    (∃ top below, pile = top :: below ∧ ∀ x ∈ tops rest, top < x) ∧ RowSound rest := by
  constructor
  · intro h
    obtain ⟨hp, hrest⟩ := List.forall_mem_cons.mp h.nonempty
    obtain ⟨htop, hrising⟩ := List.pairwise_cons.mp h.rising
    obtain ⟨top, below, rfl⟩ := List.exists_cons_of_ne_nil hp
    exact ⟨⟨top, below, rfl, htop⟩, hrest, hrising⟩
  · rintro ⟨⟨top, below, rfl, htop⟩, h⟩
    exact ⟨List.forall_mem_cons.mpr ⟨List.cons_ne_nil _ _, h.nonempty⟩, List.pairwise_cons.mpr ⟨htop, h.rising⟩⟩

/-- No pile is passed when the leftmost top is greater. -/
theorem RowSound.passed_eq_zero {r top : Nat} {below : List Nat} {rest : List (List Nat)}
    (h : RowSound ((top :: below) :: rest)) (hr : r ≤ top) : passed r ((top :: below) :: rest) = 0 := by
  have hrising := List.pairwise_cons.mp h.rising
  refine List.countP_eq_zero.mpr (List.forall_mem_cons.mpr ⟨by simpa using hr, fun pile hpile => ?_⟩)
  have : top < pile.headD 0 := hrising.1 _ (List.mem_map_of_mem hpile)
  simp only [decide_eq_true_eq]
  omega

theorem passed_cons_of_lt {r top : Nat} {below : List Nat} {rest : List (List Nat)} (hr : top < r) :
    passed r ((top :: below) :: rest) = passed r rest + 1 :=
  List.countP_cons_of_pos (by simpa using hr)

theorem passed_le_length (r : Nat) (row : List (List Nat)) : passed r row ≤ row.length := List.countP_le_length

/-- The piles passed are the leftmost ones. -/
theorem RowSound.top_lt_iff {row : List (List Nat)} (h : RowSound row) {r i : Nat} {pile : List Nat}
    (hi : row[i]? = some pile) : pile.headD 0 < r ↔ i < passed r row := by
  induction row generalizing i with
  | nil => simp at hi
  | cons first rest ih =>
    obtain ⟨⟨top, below, rfl, htop⟩, hrest⟩ := RowSound.cons_iff.mp h
    by_cases hr : top < r
    · rw [passed_cons_of_lt hr]
      cases i with
      | zero =>
        obtain rfl : top :: below = pile := by simpa using hi
        simpa using hr
      | succ j =>
        rw [ih hrest (by simpa using hi)]
        omega
    · rw [h.passed_eq_zero (Nat.le_of_not_lt hr)]
      cases i with
      | zero =>
        obtain rfl : top :: below = pile := by simpa using hi
        simpa using hr
      | succ j =>
        have hmem : pile ∈ rest := List.mem_of_getElem? (by simpa using hi : rest[j]? = some pile)
        have := htop _ (List.mem_map_of_mem hmem)
        omega

/-! ## One placement (R105) -/

/-- How a placement goes through a sound row that has not the rank among its tops: to the right end, or to the
first greater top, past the smaller ones. -/
inductive CanLay (r : Nat) : List (List Nat) → Prop
  | rightEnd : CanLay r []
  | greater {top : Nat} {below : List Nat} {rest : List (List Nat)} (hr : r < top)
      (hs : RowSound ((top :: below) :: rest)) : CanLay r ((top :: below) :: rest)
  | smaller {top : Nat} {below : List Nat} {rest : List (List Nat)} (hr : top < r)
      (hs : RowSound ((top :: below) :: rest)) (hrest : CanLay r rest) : CanLay r ((top :: below) :: rest)

theorem RowSound.canLay {r : Nat} {row : List (List Nat)} (h : RowSound row) (hr : r ∉ tops row) : CanLay r row := by
  induction row with
  | nil => exact .rightEnd
  | cons pile rest ih =>
    obtain ⟨⟨top, below, rfl, -⟩, hrest⟩ := RowSound.cons_iff.mp h
    obtain ⟨hne, hr⟩ := not_or.mp (mt List.mem_cons.mpr hr)
    rcases Nat.lt_or_gt_of_ne hne with hlt | hgt
    · exact .greater hlt h
    · exact .smaller hgt h (ih hrest hr)

section
variable {r : Nat} {row : List (List Nat)}

theorem layOn_of_lt {top : Nat} (below : List Nat) (rest : List (List Nat)) (left : Option Nat) (h : r < top) :
    layOn r left ((top :: below) :: rest) = ((r :: top :: below) :: rest, left) := by
  simp [layOn, h]

theorem layOn_of_gt {top : Nat} (below : List Nat) (rest : List (List Nat)) (left : Option Nat) (h : top < r) :
    layOn r left ((top :: below) :: rest) =
      ((top :: below) :: (layOn r (some top) rest).1, (layOn r (some top) rest).2) := by
  simp [layOn, Nat.not_lt.mpr h.le]

/-- A rank goes on the leftmost pile whose top is greater, else on a new pile at the right end (R105). -/
theorem CanLay.layOn_row (h : CanLay r row) (left : Option Nat) : (layOn r left row).1 =
    if passed r row < row.length then row.modify (passed r row) (fun pile => r :: pile) else row ++ [[r]] := by
  induction h generalizing left with
  | rightEnd => rfl
  | greater hr hs => simp [layOn_of_lt _ _ _ hr, hs.passed_eq_zero hr.le]
  | smaller hr hs _ ih =>
    rw [layOn_of_gt _ _ _ hr, passed_cons_of_lt hr, ih]
    simp only [List.length_cons, Nat.add_lt_add_iff_right, List.modify_succ_cons]
    split <;> simp

/-- The predecessor is the top of the pile to the left (R105). -/
theorem CanLay.layOn_pred (h : CanLay r row) (left : Option Nat) : (layOn r left row).2 =
    if passed r row = 0 then left else (row[passed r row - 1]?).bind List.head? := by
  induction h generalizing left with
  | rightEnd => rfl
  | greater hr hs => simp [layOn_of_lt _ _ _ hr, hs.passed_eq_zero hr.le]
  | @smaller top below rest hr hs _ ih =>
    rw [layOn_of_gt _ _ _ hr, passed_cons_of_lt hr, ih]
    cases passed r rest <;> simp

/-- A placement adds the rank to the pile it is laid on, and moves no other. -/
theorem CanLay.onPile_layOn (h : CanLay r row) (left : Option Nat) {i x : Nat} :
    OnPile (layOn r left row).1 i x ↔ (x = r ∧ i = passed r row) ∨ OnPile row i x := by
  induction h generalizing left i with
  | rightEnd => cases i <;> simp [layOn, OnPile, passed]
  | greater hr hs =>
    rw [layOn_of_lt _ _ _ hr, hs.passed_eq_zero hr.le]
    cases i <;> simp [OnPile.zero_cons, OnPile.succ_cons]
  | smaller hr hs _ ih =>
    rw [layOn_of_gt _ _ _ hr, passed_cons_of_lt hr]
    cases i <;> simp [OnPile.zero_cons, OnPile.succ_cons, ih]

/-- The tops after a placement are tops of before, and the rank. -/
theorem CanLay.mem_tops_layOn (h : CanLay r row) (left : Option Nat) {x : Nat}
    (hx : x ∈ tops (layOn r left row).1) : x = r ∨ x ∈ tops row := by
  induction h generalizing left with
  | rightEnd => simpa [layOn, tops] using hx
  | greater hr hs =>
    rw [layOn_of_lt _ _ _ hr] at hx
    exact (List.mem_cons.mp hx).imp_right (List.mem_cons_of_mem _)
  | smaller hr hs _ ih =>
    rw [layOn_of_gt _ _ _ hr] at hx
    rcases List.mem_cons.mp hx with rfl | hx
    · exact .inr List.mem_cons_self
    · exact (ih _ hx).imp_right (List.mem_cons_of_mem _)

/-- The tops still rise after a placement (R105). -/
theorem CanLay.layOn_sound (h : CanLay r row) (left : Option Nat) : RowSound (layOn r left row).1 := by
  induction h generalizing left with
  | rightEnd => exact ⟨by simp [layOn], by simp [layOn, tops]⟩
  | @greater top below rest hr hs =>
    have htop := (List.pairwise_cons.mp hs.rising).1
    rw [layOn_of_lt _ _ _ hr]
    exact RowSound.cons_iff.mpr ⟨⟨r, top :: below, rfl, fun x hx => hr.trans (htop x hx)⟩,
      (RowSound.cons_iff.mp hs).2⟩
  | @smaller top below rest hr hs hrest ih =>
    rw [layOn_of_gt _ _ _ hr]
    refine RowSound.cons_iff.mpr ⟨⟨top, below, rfl, fun x hx => ?_⟩, ih _⟩
    rcases hrest.mem_tops_layOn _ hx with rfl | hx
    · exact hr
    · exact (List.pairwise_cons.mp hs.rising).1 x hx

/-- No top grows: a bound has at least as many tops below it after a placement. -/
theorem CanLay.passed_le_layOn (h : CanLay r row) (left : Option Nat) (z : Nat) :
    passed z row ≤ passed z (layOn r left row).1 := by
  induction h generalizing left with
  | rightEnd => exact Nat.zero_le _
  | @greater top _ _ hr hs =>
    rw [layOn_of_lt _ _ _ hr]
    by_cases hz : top < z
    · rw [passed_cons_of_lt hz, passed_cons_of_lt (hr.trans hz)]
    · rw [hs.passed_eq_zero (Nat.le_of_not_lt hz)]
      exact Nat.zero_le _
  | smaller hr hs _ ih =>
    simpa only [layOn_of_gt _ _ _ hr, passed, List.countP_cons, Nat.add_le_add_iff_right] using ih _

/-- The rank and the tops it passed are all below a bound above the rank. -/
theorem CanLay.passed_lt_layOn (h : CanLay r row) (left : Option Nat) {z : Nat} (hz : r < z) :
    passed r row < passed z (layOn r left row).1 := by
  induction h generalizing left with
  | rightEnd => simp [layOn, passed, hz]
  | greater hr hs =>
    rw [hs.passed_eq_zero hr.le, layOn_of_lt _ _ _ hr, passed_cons_of_lt hz]
    exact Nat.succ_pos _
  | smaller hr hs _ ih =>
    rw [layOn_of_gt _ _ _ hr, passed_cons_of_lt hr, passed_cons_of_lt (hr.trans hz)]
    exact Nat.succ_lt_succ (ih _)

end

/-! ## The walk (R105) -/

theorem Piles.predOf_lay_self (p : Piles) (r : Nat) : (p.lay r).predOf r = (layOn r Option.none p.row).2 := by
  simp [Piles.predOf, Piles.lay]

theorem Piles.predOf_lay_of_ne (p : Piles) {r x : Nat} (h : x ≠ r) : (p.lay r).predOf x = p.predOf x := by
  simp [Piles.predOf, Piles.lay, h.symm]

theorem walk_concat (sequence : List Nat) (r : Nat) : walk (sequence ++ [r]) = (walk sequence).lay r :=
  List.foldl_concat ..

/-- What the walk of a sequence keeps: the tops rise; each rank's predecessor lies on the pile to the left, and is
smaller and stands earlier; and the tops below a bound are as many as any rising choice below it. -/
structure Piles.IsWalk (sequence : List Nat) (p : Piles) : Prop where
  sound : RowSound p.row
  laid : ∀ i x, OnPile p.row i x → x ∈ sequence
  leftmost : ∀ x, OnPile p.row 0 x → p.predOf x = Option.none
  linked : ∀ i x, OnPile p.row (i + 1) x → ∃ y, OnPile p.row i y ∧ p.predOf x = some y
  earlier : ∀ x y, p.predOf x = some y →
    y < x ∧ y ∈ sequence ∧ x ∈ sequence ∧ sequence.idxOf y < sequence.idxOf x
  longest : ∀ (other : List Nat) (z : Nat), other.Sublist sequence → other.Pairwise (· < ·) →
    (∀ x ∈ other, x < z) → other.length ≤ passed z p.row

theorem Piles.none_isWalk : Piles.none.IsWalk [] where
  sound := ⟨by simp [Piles.none], by simp [Piles.none, tops]⟩
  laid i x h := by simp [Piles.none, OnPile] at h
  leftmost x h := rfl
  linked i x h := by simp [Piles.none, OnPile] at h
  earlier x y h := by simp [Piles.none, Piles.predOf] at h
  longest other z h _ _ := by simp [List.sublist_nil.mp h]

section
variable {sequence : List Nat} {p : Piles} {r : Nat}

theorem Piles.IsWalk.canLay (h : p.IsWalk sequence) (hr : r ∉ sequence) : CanLay r p.row := by
  refine h.sound.canLay (fun htop => hr ?_)
  obtain ⟨i, hi⟩ := h.sound.onPile_of_mem_tops htop
  exact h.laid i r hi

/-- The predecessor recorded at a placement is a smaller rank, on the pile to the left of the one laid on. -/
theorem Piles.IsWalk.predOf_lay_iff (h : p.IsWalk sequence) (hr : r ∉ sequence) {y : Nat} :
    (p.lay r).predOf r = some y ↔
      ∃ i below, passed r p.row = i + 1 ∧ p.row[i]? = some (y :: below) ∧ y < r := by
  rw [Piles.predOf_lay_self, (h.canLay hr).layOn_pred]
  cases hk : passed r p.row with
  | zero => simp
  | succ i =>
    have hi : i < p.row.length := by have := passed_le_length r p.row; omega
    obtain ⟨top, below, htop⟩ := h.sound.exists_top hi
    have hlt : top < r := (h.sound.top_lt_iff htop).mpr (by omega)
    simp only [Nat.add_one_ne_zero, if_false, Nat.add_sub_cancel, htop, Option.bind_some, List.head?_cons,
      Option.some.injEq]
    constructor
    · rintro rfl
      exact ⟨i, below, rfl, htop, hlt⟩
    · rintro ⟨j, below', hj, hy, -⟩
      obtain rfl : i = j := by omega
      simpa [htop] using congrArg (Option.bind · List.head?) (htop.symm.trans hy)

/-- One placement of the walk keeps all this. -/
theorem Piles.IsWalk.lay (h : p.IsWalk sequence) (hr : r ∉ sequence) : (p.lay r).IsWalk (sequence ++ [r]) := by
  have hlay := h.canLay hr
  have hon (i x : Nat) : OnPile (p.lay r).row i x ↔ (x = r ∧ i = passed r p.row) ∨ OnPile p.row i x :=
    hlay.onPile_layOn Option.none
  have hold {i x : Nat} (hx : OnPile p.row i x) : (p.lay r).predOf x = p.predOf x :=
    p.predOf_lay_of_ne (ne_of_mem_of_not_mem (h.laid i x hx) hr)
  refine ⟨hlay.layOn_sound Option.none, fun i x hx => ?_, fun x hx => ?_, fun i x hx => ?_, fun x y hxy => ?_,
    fun other z hsub hrise hz => ?_⟩
  · rcases (hon i x).mp hx with ⟨rfl, -⟩ | hx
    · simp
    · exact List.mem_append_left _ (h.laid i x hx)
  · rcases (hon 0 x).mp hx with ⟨rfl, hk⟩ | hx
    · rw [Piles.predOf_lay_self, hlay.layOn_pred, if_pos hk.symm]
    · rw [hold hx, h.leftmost x hx]
  · rcases (hon (i + 1) x).mp hx with ⟨rfl, hk⟩ | hx
    · have hi : i < p.row.length := by have := passed_le_length x p.row; omega
      obtain ⟨y, below, hy⟩ := h.sound.exists_top hi
      have hlt : y < x := (h.sound.top_lt_iff hy).mpr (by omega)
      exact ⟨y, (hon i y).mpr (.inr (.of_top hy)), (h.predOf_lay_iff hr).mpr ⟨i, below, hk.symm, hy, hlt⟩⟩
    · obtain ⟨y, hy, hpred⟩ := h.linked i x hx
      exact ⟨y, (hon i y).mpr (.inr hy), (hold hx).trans hpred⟩
  · by_cases hx : x = r
    · subst hx
      obtain ⟨i, below, -, hy, hlt⟩ := (h.predOf_lay_iff hr).mp hxy
      have hmem := h.laid i y (.of_top hy)
      have := List.idxOf_lt_length_of_mem hmem
      refine ⟨hlt, List.mem_append_left _ hmem, by simp, ?_⟩
      rw [List.idxOf_append_of_mem hmem, List.idxOf_append_of_notMem hr]
      omega
    · rw [p.predOf_lay_of_ne hx] at hxy
      obtain ⟨hlt, hy, hx, hidx⟩ := h.earlier x y hxy
      refine ⟨hlt, List.mem_append_left _ hy, List.mem_append_left _ hx, ?_⟩
      rwa [List.idxOf_append_of_mem hy, List.idxOf_append_of_mem hx]
  · obtain ⟨init, last, rfl, hinit, hlast⟩ := List.sublist_append_iff.mp hsub
    obtain ⟨hinitRise, -, hbelow⟩ := List.pairwise_append.mp hrise
    rcases List.sublist_singleton.mp hlast with rfl | rfl
    · rw [List.append_nil] at hz ⊢
      exact (h.longest init z hinit hinitRise hz).trans (hlay.passed_le_layOn Option.none z)
    · have hle := h.longest init r hinit hinitRise (fun x hx => hbelow x hx r (by simp))
      have hlt := hlay.passed_lt_layOn Option.none (hz r (by simp))
      rw [List.length_append, List.length_singleton]
      exact Nat.succ_le_of_lt (hle.trans_lt hlt)

end

/-- The walk of a sequence without repeats (R105). -/
theorem walk_isWalk {sequence : List Nat} (h : sequence.Nodup) : (walk sequence).IsWalk sequence := by
  induction sequence using List.reverseRecOn with
  | nil => exact Piles.none_isWalk
  | append_singleton done r ih =>
    obtain ⟨hdone, -, hr⟩ := List.nodup_append.mp h
    rw [walk_concat]
    exact (ih hdone).lay (fun hmem => hr r hmem r (by simp) rfl)

/-- Settles O18: the row and the predecessor after a placement by induction on the row, and the order of
predecessors as the walk keeps it. -/
theorem pileWalk : Obligations.PileWalk := by
  refine ⟨rfl, ?_⟩
  intro sequence r hn p q k
  obtain ⟨hdone, -, hr⟩ := List.nodup_append.mp hn
  have hr : r ∉ sequence := fun hmem => hr r hmem r (by simp) rfl
  have hp : p.IsWalk sequence := walk_isWalk hdone
  have hq : q.IsWalk (sequence ++ [r]) := walk_isWalk hn
  have hlay : q = p.lay r := walk_concat sequence r
  refine ⟨hp.sound.nonempty, hp.sound.rising, fun i pile hi => hp.sound.top_lt_iff hi, ?_, ?_, fun x hx => ?_,
    fun x y hxy => ?_⟩
  · rw [hlay]
    exact (hp.canLay hr).layOn_row Option.none
  · rw [hlay, Piles.predOf_lay_self]
    exact (hp.canLay hr).layOn_pred Option.none
  · rw [hlay, Piles.predOf_lay_of_ne p (ne_of_mem_of_not_mem hx hr)]
  · obtain ⟨hlt, hy, hx, hidx⟩ := hq.earlier x y hxy
    refine ⟨hlt, ?_, hidx⟩
    by_contra hno
    rw [List.idxOf_append_of_notMem hno] at hidx
    have := List.idxOf_lt_length_of_mem hx
    rw [List.length_append, List.length_singleton] at this
    omega

/-! ## The read-back (R106) -/

theorem Piles.chain_head? (p : Piles) (fuel x : Nat) : (p.chain (fuel + 1) x).head? = some x := by
  unfold Piles.chain
  split <;> rfl

theorem Piles.chain_of_none {p : Piles} {x : Nat} (h : p.predOf x = Option.none) (fuel : Nat) :
    p.chain (fuel + 1) x = [x] := by
  simp [Piles.chain, h]

theorem Piles.chain_of_some {p : Piles} {x y : Nat} (h : p.predOf x = some y) (fuel : Nat) :
    p.chain (fuel + 1) x = x :: p.chain fuel y := by
  simp [Piles.chain, h]

/-- The read-back goes from each rank to its predecessor. -/
theorem Piles.chain_getElem?_succ (p : Piles) (fuel x i : Nat) (hi : i + 1 < (p.chain fuel x).length) :
    (p.chain fuel x)[i + 1]? = ((p.chain fuel x)[i]?).bind p.predOf := by
  induction fuel generalizing x i with
  | zero => simp [Piles.chain] at hi
  | succ fuel ih =>
    cases hpred : p.predOf x with
    | none => simp [Piles.chain_of_none hpred] at hi
    | some y =>
      rw [Piles.chain_of_some hpred] at hi ⊢
      cases i with
      | succ j => simpa using ih y j (by simpa using hi)
      | zero =>
        cases fuel with
        | zero => simp [Piles.chain] at hi
        | succ fuel => simpa [hpred, List.head?_eq_getElem?] using p.chain_head? fuel y

section
variable {sequence : List Nat} {p : Piles}

/-- From a rank the read-back takes one rank of each pile to the left, and ends at the leftmost. -/
theorem Piles.IsWalk.chain_length (h : p.IsWalk sequence) {i x : Nat} (hx : OnPile p.row i x) :
    (p.chain (i + 1) x).length = i + 1 ∧ ∀ y, (p.chain (i + 1) x).getLast? = some y → p.predOf y = Option.none := by
  induction i generalizing x with
  | zero =>
    have hpred := h.leftmost x hx
    simp [Piles.chain_of_none hpred, hpred]
  | succ j ih =>
    obtain ⟨y, hy, hpred⟩ := h.linked j x hx
    obtain ⟨hlen, hlast⟩ := ih hy
    rw [Piles.chain_of_some hpred]
    refine ⟨by simp [hlen], fun z hz => hlast z ?_⟩
    rwa [List.getLast?_cons_of_ne_nil (List.ne_nil_of_length_eq_add_one hlen)] at hz

/-- The read-back falls in rank, from the rank it begins at. -/
theorem Piles.IsWalk.chain_falls (h : p.IsWalk sequence) (fuel x : Nat) :
    (p.chain fuel x).Pairwise (· > ·) ∧ ∀ y ∈ p.chain fuel x, y ≤ x := by
  induction fuel generalizing x with
  | zero => simp [Piles.chain]
  | succ fuel ih =>
    cases hpred : p.predOf x with
    | none => simp [Piles.chain_of_none hpred]
    | some y =>
      obtain ⟨hfalls, hle⟩ := ih y
      have hlt (z : Nat) (hz : z ∈ p.chain fuel y) : z < x := (hle z hz).trans_lt (h.earlier x y hpred).1
      rw [Piles.chain_of_some hpred]
      exact ⟨List.pairwise_cons.mpr ⟨hlt, hfalls⟩, List.forall_mem_cons.mpr ⟨le_rfl, fun z hz => (hlt z hz).le⟩⟩

theorem take_idxOf_succ {x : Nat} (h : x ∈ sequence) :
    sequence.take (sequence.idxOf x + 1) = sequence.take (sequence.idxOf x) ++ [x] := by
  rw [List.take_add_one, List.getElem?_idxOf h]
  rfl

/-- Read backwards, it is chosen from the sequence up to the rank it begins at. -/
theorem Piles.IsWalk.chain_sublist (h : p.IsWalk sequence) (fuel : Nat) {x : Nat} (hx : x ∈ sequence) :
    (p.chain fuel x).reverse.Sublist (sequence.take (sequence.idxOf x + 1)) := by
  induction fuel generalizing x with
  | zero => simp [Piles.chain]
  | succ fuel ih =>
    rw [take_idxOf_succ hx]
    cases hpred : p.predOf x with
    | none => simp [Piles.chain_of_none hpred]
    | some y =>
      obtain ⟨-, hy, -, hidx⟩ := h.earlier x y hpred
      rw [Piles.chain_of_some hpred, List.reverse_cons]
      exact ((ih hy).trans (List.take_sublist_take_left hidx)).append (List.Sublist.refl _)

theorem Piles.inOrder_of_nil (h : p.row = []) : p.inOrder = [] := by
  simp [Piles.inOrder, Piles.lastTop, h]

/-- The read-back begins at the top of the rightmost pile. -/
theorem Piles.IsWalk.inOrder_eq (h : p.IsWalk sequence) {n : Nat} (hn : p.row.length = n + 1) :
    ∃ x, p.lastTop = some x ∧ OnPile p.row n x ∧ p.inOrder = p.chain (n + 1) x := by
  obtain ⟨x, below, hx⟩ := h.sound.exists_top (show n < p.row.length by omega)
  have hlast : p.lastTop = some x := by
    rw [Piles.lastTop, List.getLast?_eq_getElem?, hn, Nat.add_sub_cancel, hx]
    rfl
  exact ⟨x, hlast, .of_top hx, by simp [Piles.inOrder, hlast, hn]⟩

/-- Read backwards, the in-order set is chosen from the sequence. -/
theorem Piles.IsWalk.inOrder_sublist (h : p.IsWalk sequence) : p.inOrder.reverse.Sublist sequence := by
  cases hlen : p.row.length with
  | zero => simp [Piles.inOrder_of_nil (List.length_eq_zero_iff.mp hlen)]
  | succ n =>
    obtain ⟨x, -, hx, hinOrder⟩ := h.inOrder_eq hlen
    rw [hinOrder]
    exact (h.chain_sublist (n + 1) (h.laid n x hx)).trans (List.take_sublist _ _)

end

/-- Settles O19: the read-back takes one rank of each pile, falling in rank and place, and the piles bound any
rising choice. -/
theorem inOrderSetIsLongest : Obligations.InOrderSetIsLongest := by
  intro sequence hn p found
  have h : p.IsWalk sequence := walk_isWalk hn
  have hlongest (other : List Nat) (hsub : other.Sublist sequence) (hrise : other.Pairwise (· < ·)) :
      other.length ≤ p.row.length :=
    (h.longest other (other.sum + 1) hsub hrise
      (fun x hx => Nat.lt_succ_of_le (List.le_sum_of_mem hx))).trans (passed_le_length _ _)
  cases hlen : p.row.length with
  | zero =>
    have hrow : p.row = [] := List.length_eq_zero_iff.mp hlen
    have hfound : found = [] := Piles.inOrder_of_nil hrow
    rw [hlen] at hlongest
    simp only [hfound, hrow]
    exact ⟨rfl, by simp, by simp, by simp, by simp, by simp, hlongest, fun r => mem_walk_ranks,
      fun r => by rw [← hfound]; rfl⟩
  | succ n =>
    obtain ⟨x, hlast, hx, hfound⟩ := h.inOrder_eq hlen
    change found = _ at hfound
    obtain ⟨hlength, hend⟩ := h.chain_length hx
    rw [← hfound] at hlength hend
    refine ⟨?_, ?_, hend, hlength, h.inOrder_sublist, ?_, ?_, fun r => mem_walk_ranks, fun r => rfl⟩
    · rw [hfound, Piles.chain_head?]
      exact hlast.symm
    · rw [hfound]
      exact p.chain_getElem?_succ (n + 1) x
    · rw [hfound, List.pairwise_reverse]
      exact (h.chain_falls (n + 1) x).1
    · rw [hlength, ← hlen]
      exact hlongest

end Sys2Proof.Machine
end

section
/-! The completions of a shelf job and of the run-wide job (R5, R79, R80, R109, R112). -/

namespace Sys2Proof.Machine

/-! ## The standings written (R106, R109, R112) -/

theorem writeShelfStandings_walk (sequence : List Nat) (entries : List Entry) :
    writeShelfStandings (walk sequence) entries = entries.map (fun e =>
      if e.rank ∈ sequence then
        { e with shelfStanding := if e.rank ∈ (walk sequence).inOrder then .inOrder else .out }
      else e) := by
  simp only [writeShelfStandings, mem_walk_ranks, Piles.standing]

/-- The read-back holds ranks of the sequence alone, and the rest of the entries take NONE (R112). -/
theorem writeRunStandings_walk {sequence : List Nat} (hn : sequence.Nodup) (entries : List Entry) :
    writeRunStandings (walk sequence) entries = entries.map (fun e =>
      { e with
        runStanding :=
          if e.rank ∈ (walk sequence).inOrder then .inOrder
          else if e.rank ∈ sequence then .out else .none }) := by
  refine List.map_congr_left (fun e _ => ?_)
  have hsub : e.rank ∈ (walk sequence).inOrder → e.rank ∈ sequence := fun h =>
    (walk_isWalk hn).inOrder_sublist.subset (List.mem_reverse.mpr h)
  by_cases hmem : e.rank ∈ sequence
  · simp only [mem_walk_ranks, Piles.standing, hmem, if_true]
  · simp only [mem_walk_ranks, hmem, mt hsub hmem, if_false]

/-! ## The completions -/

theorem execShelfJobCompletion_inFlight {s : State} {u : Nat} (h : s.order.current = .shelf u) :
    exec .shelfJobCompletion s = .next s.completeShelfJob.settled := by
  simp [exec, execShelfJobCompletion, h, finish, State.settled]

theorem execRunWideJobCompletion_inFlight {s : State} (h : s.order.current = .run) :
    exec .runWideJobCompletion s = .next s.completeRunJob.settled := by
  simp [exec, execRunWideJobCompletion, h, finish, State.settled]

/-- Settles O58: the standings are those of the read-back, and ORDER completes by its own equations. -/
theorem orderJobsComplete : Obligations.OrderJobsComplete := by
  refine ⟨?_, ?_⟩
  · intro s sequence u rest hcurrent hjobs hpiles c found tolerance entries written
    have hentries : writeShelfStandings s.order.piles s.table.entries = entries := by
      rw [hpiles]
      exact writeShelfStandings_walk sequence _
    have hdone : s.shelfJobDone = { written with order := OrderUnit.beginShelf entries tolerance rest } := by
      rw [State.shelfJobDone, hentries, hjobs, List.tail_cons]
    rw [execShelfJobCompletion_inFlight hcurrent, State.completeShelfJob_eq, hjobs, List.tail_cons, hdone]
    refine ⟨?_, ?_⟩
    · rintro v more rfl
      rfl
    · rintro rfl done swd
      rw [if_pos List.isEmpty_nil]
      refine ⟨fun v hv => ?_, fun i hi => ?_⟩
      · have hcomplete := State.completeOrder_shelf (s := done) hv
        rw [State.evaluate_withSweep] at hcomplete
        exact congrArg (fun t => Host.Outcome.next (State.settled t)) hcomplete
      · exact congrArg (fun t => Host.Outcome.next (State.settled t)) (State.completeOrder_loose (s := done) hi)
  · intro s sequence hcurrent hpiles c found entries closed n hitems hn
    have hentries : writeRunStandings s.order.piles s.table.entries = entries := by
      rw [hpiles]
      exact writeRunStandings_walk hn _
    have hclosed : closed.items = some n := hitems
    have hcount : closed.items.getD 0 = n := by rw [hclosed, Option.getD_some]
    rw [execRunWideJobCompletion_inFlight hcurrent, State.completeRunJob, hentries, ← hcount]
    rfl

end Sys2Proof.Machine
end

section
/-! The evaluation of the Anomaly Monitor: the conditions measured, the combined value, and the moves of the
counter and of the active state (R130, R131, R134 to R137). -/

namespace Sys2Proof.Machine

/-! ## The condition records after a measure (R130, R131) -/

/-- The records by their fields and by their codes. -/
theorem Conditions.get_fields (c : Conditions) :
    c.get .missingHi = c.missingHi ∧ c.get .misorderHi = c.misorderHi ∧ c.get .foreignHi = c.foreignHi ∧
      c.get .fillLo = c.fillLo ∧ c.get .rateLo = c.rateLo ∧ c.get .bleedHi = c.bleedHi :=
  ⟨rfl, rfl, rfl, rfl, rfl, rfl⟩

theorem Conditions.get_setState_same (c : Conditions) (x : CondCode) (b : Bool) :
    (c.setState x b).get x = { c.get x with state := b } := by
  simp [Conditions.setState]

theorem Conditions.get_setState_other (c : Conditions) {x y : CondCode} (b : Bool) (h : y ≠ x) :
    (c.setState x b).get y = c.get y := by
  simp [Conditions.setState, h]

/-- FILL_LO and RATE_LO are true below their threshold, the others above (R130). -/
theorem CondCode.holds_eq (x : CondCode) (threshold m : Nat) :
    x.holds threshold m =
      if x = .fillLo ∨ x = .rateLo then decide (m < threshold) else decide (threshold < m) := by
  cases x <;> rfl

theorem Conditions.get_measure_of_not_mem (c : Conditions) {ms : List (CondCode × Nat)} {y : CondCode}
    (h : y ∉ ms.map (·.1)) : (c.measure ms).get y = c.get y := by
  induction ms generalizing c with
  | nil => rfl
  | cons m ms ih =>
    obtain ⟨hm, hms⟩ := not_or.mp (mt List.mem_cons.mpr h)
    rw [Conditions.measure, ih _ hms, Conditions.get_setState_other c _ hm]

theorem Conditions.get_measure_of_mem (c : Conditions) {ms : List (CondCode × Nat)}
    (hn : (ms.map (·.1)).Nodup) {x : CondCode} {m : Nat} (h : (x, m) ∈ ms) :
    (c.measure ms).get x = { c.get x with state := x.holds (c.get x).threshold m } := by
  induction ms generalizing c with
  | nil => cases h
  | cons p ms ih =>
    obtain ⟨hp, hms⟩ := List.nodup_cons.mp hn
    rw [Conditions.measure]
    rcases List.mem_cons.mp h with rfl | h
    · rw [Conditions.get_measure_of_not_mem _ hp, Conditions.get_setState_same]
    · have hx : x ≠ p.1 := fun e => hp (List.mem_map.mpr ⟨(x, m), h, e⟩)
      rw [ih _ hms h, Conditions.get_setState_other c _ hx]

/-! ## The combined value (R134) and the counter (R135) -/

@[simp] theorem CondCode.mem_all (x : CondCode) : x ∈ CondCode.all := by
  cases x <;> decide

theorem Conditions.mem_raised {c : Conditions} {x : CondCode} :
    x ∈ c.raised ↔ (c.get x).enabled = true ∧ (c.get x).state = true := by
  simp [Conditions.raised]

theorem Conditions.raised_nodup (c : Conditions) : c.raised.Nodup :=
  List.Nodup.filter _ (by decide)

theorem Conditions.mem_enabledCodes {c : Conditions} {x : CondCode} :
    x ∈ c.enabledCodes ↔ (c.get x).enabled = true := by
  simp [Conditions.enabledCodes]

/-- In ANY one enabled condition is true; in ALL there is one and every one is true. -/
theorem Monitor.combined_iff (m : Monitor) :
    m.combined = true ↔
      if m.combine = .any then ∃ x, (m.conds.get x).enabled = true ∧ (m.conds.get x).state = true
      else (∃ x, (m.conds.get x).enabled = true) ∧
        ∀ x, (m.conds.get x).enabled = true → (m.conds.get x).state = true := by
  unfold Monitor.combined
  cases m.combine with
  | any => simp only [if_true, Bool.not_eq_true', List.isEmpty_eq_false_iff_exists_mem, Conditions.mem_raised]
  | all =>
    simp only [reduceCtorEq, if_false, Bool.and_eq_true, Bool.not_eq_true',
      List.isEmpty_eq_false_iff_exists_mem, List.all_eq_true, Conditions.mem_enabledCodes]

/-- A true value steps the counter from at least 0, so only a false one leaves it 0. -/
theorem nextCounter_eq_zero_iff {b : Bool} {n : Nat} : nextCounter b n = 0 ↔ b = false := by
  cases b with
  | false => exact iff_of_true rfl rfl
  | true =>
    have hpos : 1 ≤ nextCounter true n := satInc_pos (by decide)
    exact iff_of_false (by omega) (by decide)

/-! ## The evaluation (R131, R135 to R137) -/

/-- The monitor with the conditions measured. -/
def Monitor.measured (m : Monitor) (ms : List (CondCode × Nat)) : Monitor :=
  { m with conds := m.conds.measure ms }

/-- The monitor after an evaluation event, before the active state moves: the conditions measured and the
counter moved by the combined value (R134, R135). -/
def Monitor.counted (m : Monitor) (ms : List (CondCode × Nat)) : Monitor :=
  { m.measured ms with counter := nextCounter (m.measured ms).combined m.counter }

/-- An evaluation event names a condition that is enabled (R131). -/
def Monitor.isEvent (m : Monitor) (ms : List (CondCode × Nat)) : Prop :=
  ∃ x ∈ ms.map (·.1), ((m.conds.measure ms).get x).enabled = true

theorem Monitor.isEvent_iff {m : Monitor} {ms : List (CondCode × Nat)} :
    m.isEvent ms ↔ ms.any (fun x => ((m.conds.measure ms).get x.1).enabled) = true := by
  simp [Monitor.isEvent]

section
variable (s : State) (k : EvalKind) (l : Loc) (n : Nat) (ms : List (CondCode × Nat))

/-- Every evaluation measures the conditions and keeps the settings. -/
theorem State.evaluate_settings :
    (s.evaluate k l n ms).monitor.conds = s.monitor.conds.measure ms ∧
      (s.evaluate k l n ms).monitor.combine = s.monitor.combine ∧
      (s.evaluate k l n ms).monitor.latched = s.monitor.latched ∧
      (s.evaluate k l n ms).monitor.duration = s.monitor.duration := by
  obtain h | ⟨b, h | ⟨-, h⟩ | ⟨source, -, h⟩⟩ := s.evaluate_cases k l n ms
  all_goals rw [h]; exact ⟨rfl, rfl, rfl, rfl⟩

variable {s ms}

theorem State.evaluate_of_not_event (h : ¬ s.monitor.isEvent ms) :
    s.evaluate k l n ms = { s with monitor := s.monitor.measured ms } :=
  s.evaluate_disabled k l n ms (Bool.eq_false_iff.mpr (mt Monitor.isEvent_iff.mpr h))

/-- An active anomaly goes on while it is latched or the value is true (R136). -/
theorem State.evaluate_stays_active (h : s.monitor.isEvent ms) (ha : s.monitor.active = true)
    (hv : s.monitor.latched = true ∨ (s.monitor.measured ms).combined = true) :
    s.evaluate k l n ms = { s with monitor := s.monitor.counted ms } := by
  have hstays : ¬ (!s.monitor.latched && nextCounter (s.monitor.measured ms).combined s.monitor.counter == 0)
      = true := by
    rw [Bool.and_eq_true, Bool.not_eq_true', beq_iff_eq, nextCounter_eq_zero_iff]
    rintro ⟨hlatched, hvalue⟩
    rcases hv with hv | hv
    · exact Bool.false_ne_true (hlatched.symm.trans hv)
    · exact Bool.false_ne_true (hvalue.symm.trans hv)
  exact (if_pos (Monitor.isEvent_iff.mp h)).trans ((if_pos ha).trans (if_neg hstays))

/-- An active anomaly that is not latched ends at a false value (R136). -/
theorem State.evaluate_ends (h : s.monitor.isEvent ms) (ha : s.monitor.active = true)
    (hl : s.monitor.latched = false) (hv : (s.monitor.measured ms).combined = false) :
    s.evaluate k l n ms = ({ s with monitor := s.monitor.counted ms } : State).deactivate := by
  have hends : (!s.monitor.latched && nextCounter (s.monitor.measured ms).combined s.monitor.counter == 0)
      = true := by
    rw [hl, hv]
    rfl
  exact (if_pos (Monitor.isEvent_iff.mp h)).trans ((if_pos ha).trans (if_pos hends))

/-- An inactive anomaly stays so up to the duration setting (R135). -/
theorem State.evaluate_stays_inactive (h : s.monitor.isEvent ms) (ha : s.monitor.active = false)
    (hc : (s.monitor.counted ms).counter < s.monitor.duration + 1) :
    s.evaluate k l n ms = { s with monitor := s.monitor.counted ms } :=
  (if_pos (Monitor.isEvent_iff.mp h)).trans
    ((if_neg (Bool.eq_false_iff.mp ha)).trans (if_neg (Nat.not_le.mpr hc)))

/-- An inactive anomaly activates past the duration setting, from the conditions enabled and true (R137). -/
theorem State.evaluate_activates (h : s.monitor.isEvent ms) (ha : s.monitor.active = false)
    (hc : s.monitor.duration + 1 ≤ (s.monitor.counted ms).counter) :
    s.evaluate k l n ms = ({ s with monitor := s.monitor.counted ms } : State).activate
      { kind := k, conditions := (s.monitor.conds.measure ms).raised, loc := l, sweep := n } :=
  (if_pos (Monitor.isEvent_iff.mp h)).trans ((if_neg (Bool.eq_false_iff.mp ha)).trans (if_pos hc))

/-- Whatever the active state does at an evaluation event, the counter moves by the combined value (R135). -/
theorem State.evaluate_counter (h : s.monitor.isEvent ms) :
    (s.evaluate k l n ms).monitor.counter = nextCounter (s.monitor.measured ms).combined s.monitor.counter := by
  cases ha : s.monitor.active with
  | true =>
    by_cases hv : s.monitor.latched = true ∨ (s.monitor.measured ms).combined = true
    · rw [State.evaluate_stays_active k l n h ha hv]
      rfl
    · obtain ⟨hl, hv⟩ := not_or.mp hv
      rw [State.evaluate_ends k l n h ha (Bool.eq_false_iff.mpr hl) (Bool.eq_false_iff.mpr hv)]
      rfl
  | false =>
    by_cases hc : (s.monitor.counted ms).counter < s.monitor.duration + 1
    · rw [State.evaluate_stays_inactive k l n h ha hc]
      rfl
    · rw [State.evaluate_activates k l n h ha (Nat.not_lt.mp hc)]
      rfl

end

/-- Settles O22: the states by induction over the measures, then the moves of an evaluation event one by one. -/
theorem evaluationMovesTheAnomaly : Obligations.EvaluationMovesTheAnomaly := by
  refine ⟨Conditions.get_fields, ?_, ?_⟩
  · intro kind l n ms s hn t
    obtain ⟨hconds, hsettings⟩ := s.evaluate_settings kind l n ms
    refine ⟨fun x v hx => ?_, fun x hx => ?_, hsettings⟩
    · rw [hconds, Conditions.get_measure_of_mem _ hn hx, CondCode.holds_eq]
    · rw [hconds, Conditions.get_measure_of_not_mem _ hx]
  · intro kind l n ms s t m enabled holds value event
    obtain ⟨hconds, -⟩ := s.evaluate_settings kind l n ms
    change m.conds = _ at hconds
    have hevent : event ↔ s.monitor.isEvent ms := by
      simp only [event, enabled, hconds, Monitor.isEvent]
    have hvalue : value ↔ (s.monitor.measured ms).combined = true := by
      simp only [value, enabled, holds, hconds]
      exact (Monitor.combined_iff (s.monitor.measured ms)).symm
    refine ⟨fun hno => ?_, fun he => ?_⟩
    · rw [hconds]
      exact State.evaluate_of_not_event kind l n (mt hevent.mpr hno)
    have he := hevent.mp he
    have hcounter : m.counter = (s.monitor.counted ms).counter := State.evaluate_counter kind l n he
    rw [hvalue, hconds, hcounter]
    refine ⟨fun hv => ?_, fun hv => ?_, fun ha hv => ?_, fun ha hl hv => ?_, fun ha hc => ?_, fun ha hc => ?_⟩
    · simp only [Monitor.counted, hv]
      rfl
    · exact nextCounter_eq_zero_iff.mpr (Bool.eq_false_iff.mpr hv)
    · exact State.evaluate_stays_active kind l n he ha hv
    · have hv := Bool.eq_false_iff.mpr hv
      have hzero : (s.monitor.counted ms).counter = 0 := nextCounter_eq_zero_iff.mpr hv
      rw [← hzero]
      exact State.evaluate_ends kind l n he ha hl hv
    · exact State.evaluate_stays_inactive kind l n he ha hc
    · exact ⟨_, rfl, rfl, rfl, Conditions.raised_nodup _, fun x => hconds ▸ Conditions.mem_raised,
        State.evaluate_activates kind l n he ha hc⟩

end Sys2Proof.Machine
end

section
/-! AC, AM and AQ: their checks, the values taken, and the end of a latched anomaly (R137, R139 to R141). -/

namespace Sys2Proof.Machine

/-! ## The codes and values taken (R130, R139, R140) -/

theorem condOfCode_code (x : CondCode) : condOfCode x.code = some x := by
  cases x <;> rfl

theorem condOfCode_eq_none {n : Nat} (h : n = 0 ∨ 6 < n) : condOfCode n = none := by
  have hcode (x : CondCode) : 1 ≤ x.code ∧ x.code ≤ 6 := by cases x <;> decide
  refine List.find?_eq_none.mpr (fun x _ hx => ?_)
  have hn : x.code = n := beq_iff_eq.mp hx
  have := hcode x
  omega

theorem combineOfCode_of_le_one {n : Nat} (h : n ≤ 1) :
    combineOfCode n = some (if n = 0 then .any else .all) := by
  obtain rfl | rfl := Nat.le_one_iff_eq_zero_or_eq_one.mp h <;> rfl

theorem combineOfCode_eq_none {n : Nat} (h : 1 < n) : combineOfCode n = none := by
  match n, h with
  | n + 2, _ => rfl

theorem CombineMode.code_eq (c : CombineMode) : c.code = if c = .any then 0 else 1 := by
  cases c <;> rfl

theorem Field.kind_eq (k : EvalKind) :
    Field.kind k = .letter (match k with
      | .rate => asc 'R'
      | .bleed => asc 'B'
      | .shelf => asc 'S') := by
  cases k <;> rfl

theorem clamp_zero (hi n : Nat) : clamp 0 hi n = min n hi := by
  rw [clamp_eq_max_min (Nat.zero_le hi), Nat.zero_max]

/-! ## The decisions -/

section
variable {s : State}

theorem decideConditionRequest_refuses {code threshold enable : Nat}
    (h : code = 0 ∨ 6 < code ∨ 1 < enable) : decideConditionRequest code threshold enable s = .refuse .RG [] := by
  unfold decideConditionRequest
  rw [← or_assoc] at h
  rcases h with hcode | henable
  · rw [condOfCode_eq_none hcode]
  · simp only [henable, if_true]
    split <;> rfl

theorem decideConditionRequest_accepts (x : CondCode) (threshold : Nat) {enable : Nat} (h : enable ≤ 1) :
    decideConditionRequest x.code threshold enable s =
      .accept
        { s with monitor := { s.monitor with
            conds := s.monitor.conds.put x
              { s.monitor.conds.get x with threshold := min threshold 255, enabled := decide (enable = 1) } } }
        [.num x.code, .num (min threshold 255), .num enable, .flag (s.monitor.conds.get x).state] := by
  unfold decideConditionRequest
  rw [condOfCode_code]
  simp only [Nat.not_lt.mpr h, if_false, clamp_zero]
  rfl

theorem decideModeRequest_refuses {combine latch duration : Nat} (h : 1 < combine ∨ 1 < latch) :
    decideModeRequest combine latch duration s = .refuse .RG [] := by
  unfold decideModeRequest
  rcases h with hcombine | hlatch
  · rw [combineOfCode_eq_none hcombine]
  · simp only [hlatch, if_true]
    split <;> rfl

theorem decideModeRequest_accepts {combine latch : Nat} (duration : Nat) (hc : combine ≤ 1) (hl : latch ≤ 1) :
    decideModeRequest combine latch duration s =
      .accept
        { s with monitor := { s.monitor with
            combine := if combine = 0 then .any else .all, latched := decide (latch = 1),
            duration := min duration 15, counter := 0 } }
        [.num combine, .num latch, .num (min duration 15)] := by
  unfold decideModeRequest
  rw [combineOfCode_of_le_one hc]
  simp only [Nat.not_lt.mpr hl, if_false, clamp_zero]
  rfl

/-! ## AQ (R141) -/

/-- A latched active anomaly ends. -/
theorem State.acknowledge_ends (hl : s.monitor.latched = true) (ha : s.monitor.active = true) :
    s.acknowledge =
      { s with monitor := { s.monitor with counter := 0, active := false }, evidence := s.evidence.fall } := by
  unfold State.acknowledge
  rw [hl, ha]
  rfl

theorem State.acknowledge_of_not (h : s.monitor.latched = false ∨ s.monitor.active = false) :
    s.acknowledge = s := by
  unfold State.acknowledge
  rcases h with h | h <;> simp [h]

end

/-! ## The commands, once the decision is known (R157, R158) -/

section
variable {s : State} {d : Terminator}

theorem exec_conditionRequest_refused {code threshold enable : Nat} (h : CanTake s (.ac code threshold enable) d)
    (hd : decideConditionRequest code threshold enable s.freeSlot = .refuse .RG []) :
    exec .conditionRequest s = .next (s.replied .AC .RG []) := by
  change execConditionRequest s = _
  unfold execConditionRequest
  exact takeRequest_refused h (congrArg some hd)

theorem exec_conditionRequest_accepted {t : State} {fields : List Field} {code threshold enable : Nat}
    (h : CanTake s (.ac code threshold enable) d)
    (hd : decideConditionRequest code threshold enable s.freeSlot = .accept t.freeSlot fields) :
    exec .conditionRequest s = .next (s.accepted t .AC d fields) := by
  change execConditionRequest s = _
  unfold execConditionRequest
  exact takeRequest_effective h (congrArg some hd)

theorem exec_modeRequest_refused {combine latch duration : Nat} (h : CanTake s (.am combine latch duration) d)
    (hd : decideModeRequest combine latch duration s.freeSlot = .refuse .RG []) :
    exec .modeRequest s = .next (s.replied .AM .RG []) := by
  change execModeRequest s = _
  unfold execModeRequest
  exact takeRequest_refused h (congrArg some hd)

theorem exec_modeRequest_accepted {t : State} {fields : List Field} {combine latch duration : Nat}
    (h : CanTake s (.am combine latch duration) d)
    (hd : decideModeRequest combine latch duration s.freeSlot = .accept t.freeSlot fields) :
    exec .modeRequest s = .next (s.accepted t .AM d fields) := by
  change execModeRequest s = _
  unfold execModeRequest
  exact takeRequest_effective h (congrArg some hd)

/-- AQ is always accepted, and its reply is the monitor as it found it. -/
theorem exec_acknowledgeRequest {t : State} (h : CanTake s .aq d) (ht : s.freeSlot.acknowledge = t.freeSlot) :
    exec .acknowledgeRequest s = .next (s.accepted t .AQ d s.monitor.statusFields) := by
  change execAcknowledgeRequest s = _
  unfold execAcknowledgeRequest
  exact takeRequest_effective h (congrArg (fun u => some (Decision.accept u s.monitor.statusFields)) ht)

end

/-- Settles O42: the branches of the checks of AC and of AM, and the two ends of AQ. -/
theorem monitorRequestsTakeEffect : Obligations.MonitorRequestsTakeEffect := by
  refine ⟨⟨fun s code threshold enable d h => ⟨fun hbad => ?_, ?_⟩,
    fun s combine latch duration d h => ⟨fun hbad => ?_, fun hcombine hlatch => ?_⟩⟩, fun s d h => ?_⟩
  · exact exec_conditionRequest_refused h (decideConditionRequest_refuses hbad)
  · rintro x rfl henable
    exact ⟨_, (Conditions.get_put ..).trans (if_pos rfl),
      fun y hy => (Conditions.get_put ..).trans (if_neg hy),
      exec_conditionRequest_accepted h (decideConditionRequest_accepts x threshold henable)⟩
  · exact exec_modeRequest_refused h (decideModeRequest_refuses hbad)
  · exact exec_modeRequest_accepted h (decideModeRequest_accepts duration hcombine hlatch)
  · intro m fields
    have hfields : m.statusFields = fields := by
      simp only [Monitor.statusFields, CombineMode.code_eq, List.flatten_cons, List.flatten_nil, List.append_nil,
        ← List.append_assoc]
      refine congrArg₂ (· ++ ·) rfl ?_
      cases m.source with
      | none => rfl
      | some r => exact congrArg (fun x => [x, _, _, _]) (Field.kind_eq r.kind)
    rw [← hfields]
    exact ⟨fun hlatched hactive => exec_acknowledgeRequest h (State.acknowledge_ends hlatched hactive),
      fun hnot => exec_acknowledgeRequest h (State.acknowledge_of_not hnot)⟩

end Sys2Proof.Machine
end

section
/-! The Evidence Buffer's phase keeps to its mode and to the anomaly, through every step (R147 to R149, R151,
R153). -/

namespace Sys2Proof.Machine

/-! ## The phase that belongs to a mode and to the trigger -/

/-- The phase is the one the mode begins in under the trigger as it stands, or the FROZEN that ROLL_FREEZE has
come to from FREEZING while the trigger is up. -/
def EvidenceBuffer.Follows (e : EvidenceBuffer) (trigger : Bool) : Prop :=
  e.phase = e.mode.firstPhase trigger ∨ (e.mode = .rollFreeze ∧ trigger = true ∧ e.phase = .frozen)

theorem State.evidenceSound_iff (s : State) : s.EvidenceSound ↔ s.evidence.Follows s.monitor.active := by
  unfold State.EvidenceSound EvidenceBuffer.Follows
  cases s.evidence.mode <;> cases s.monitor.active <;> simp [EvidenceMode.firstPhase]

/-- FREEZING is a phase of ROLL_FREEZE under the trigger alone (R147). -/
theorem EvidenceMode.firstPhase_eq_freezing_iff {m : EvidenceMode} {trigger : Bool} :
    m.firstPhase trigger = .freezing ↔ m = .rollFreeze ∧ trigger = true := by
  cases m <;> cases trigger <;> decide

/-- A rise takes the first phase of each mode without the trigger to that with it (R147, R148). -/
theorem EvidenceBuffer.Follows.rise {e : EvidenceBuffer} (h : e.Follows false) : e.rise.Follows true := by
  obtain ⟨-, -, hmode, -⟩ := e.rise_keeps
  obtain hphase | ⟨-, htrigger, -⟩ := h
  · refine .inl ?_
    rw [hmode]
    unfold EvidenceBuffer.rise
    rw [hphase]
    cases hm : e.mode <;> simp [EvidenceMode.firstPhase, hphase, hm]
  · cases htrigger

/-- A fall takes every phase of a mode under the trigger, FROZEN too, to the first without it (R147, R148). -/
theorem EvidenceBuffer.Follows.fall {e : EvidenceBuffer} (h : e.Follows true) : e.fall.Follows false := by
  obtain ⟨-, -, hmode, -⟩ := e.fall_keeps
  refine .inl ?_
  rw [hmode]
  unfold EvidenceBuffer.fall
  obtain hphase | ⟨hm, -, hphase⟩ := h
  · rw [hphase]
    cases hm : e.mode <;> simp [EvidenceMode.firstPhase, hphase, hm]
  · rw [hphase, hm]
    rfl

theorem EvidenceBuffer.rollIn_phase (e : EvidenceBuffer) (r : StampedRead) :
    (e.rollIn r).phase = e.phase := by
  unfold EvidenceBuffer.rollIn
  split <;> rfl

/-- A copy leaves the mode, and moves the phase from FREEZING to FROZEN alone (R145 to R148). -/
theorem EvidenceBuffer.capture_phase_cases (e : EvidenceBuffer) (r : StampedRead) :
    (e.capture r).mode = e.mode ∧
      ((e.capture r).phase = e.phase ∨ (e.phase = .freezing ∧ (e.capture r).phase = .frozen)) := by
  have hroll : (e.rollIn r).mode = e.mode ∧
      ((e.rollIn r).phase = e.phase ∨ (e.phase = .freezing ∧ (e.rollIn r).phase = .frozen)) :=
    ⟨(e.rollIn_keeps r).2, .inl (e.rollIn_phase r)⟩
  unfold EvidenceBuffer.capture
  split
  · exact ⟨rfl, .inl rfl⟩
  · split <;> exact ⟨rfl, .inl rfl⟩
  · exact hroll
  · split
    · exact ⟨rfl, .inl rfl⟩
    next hfreezing =>
      dsimp only
      split
      · exact ⟨hroll.1, .inr ⟨hfreezing, rfl⟩⟩
      · exact hroll
    · exact hroll
  · split
    · exact hroll
    · exact ⟨rfl, .inl rfl⟩

theorem EvidenceBuffer.Follows.capture {e : EvidenceBuffer} {trigger : Bool} (h : e.Follows trigger)
    (r : StampedRead) : (e.capture r).Follows trigger := by
  obtain ⟨hmode, hphase | ⟨hfreezing, hfrozen⟩⟩ := e.capture_phase_cases r
  · rw [EvidenceBuffer.Follows, hmode, hphase]
    exact h
  · obtain hfirst | ⟨-, -, hother⟩ := h
    · obtain ⟨hm, htrigger⟩ := EvidenceMode.firstPhase_eq_freezing_iff.mp (hfirst.symm.trans hfreezing)
      exact .inr ⟨hmode.trans hm, htrigger, hfrozen⟩
    · rw [hfreezing] at hother
      cases hother

/-! ## The operations -/

section
variable {s : State}

/-- The invariant reads the mode, the phase and the active state alone. -/
theorem State.EvidenceSound.congr {t : State} (h : s.EvidenceSound)
    (hactive : t.monitor.active = s.monitor.active) (hmode : t.evidence.mode = s.evidence.mode)
    (hphase : t.evidence.phase = s.evidence.phase) : t.EvidenceSound := by
  rw [State.evidenceSound_iff, EvidenceBuffer.Follows] at h ⊢
  rw [hactive, hmode, hphase]
  exact h

/-- The buffer and the monitor stand as they were. -/
theorem State.EvidenceSound.of_eq {t : State} (h : s.EvidenceSound) (hm : t.monitor = s.monitor)
    (he : t.evidence = s.evidence) : t.EvidenceSound :=
  h.congr (by rw [hm]) (by rw [he]) (by rw [he])

/-- RS and DR leave the buffer in OFF, which has no phase (R153). -/
theorem State.evidenceSound_of_reset {e : EvidenceBuffer} (h : s.evidence = e.reset) : s.EvidenceSound := by
  rw [State.evidenceSound_iff, h]
  exact .inl rfl

theorem State.EvidenceSound.deactivate (h : s.EvidenceSound) (ha : s.monitor.active = true) :
    s.deactivate.EvidenceSound := by
  rw [State.evidenceSound_iff, ha] at h
  exact (State.evidenceSound_iff _).mpr h.fall

theorem State.EvidenceSound.activate (h : s.EvidenceSound) (ha : s.monitor.active = false) (r : SourceRecord) :
    (s.activate r).EvidenceSound := by
  rw [State.evidenceSound_iff, ha] at h
  exact (State.evidenceSound_iff _).mpr h.rise

/-- An evaluation raises the trigger where it activates and lowers it where the active state ends (R149). -/
theorem State.EvidenceSound.evaluate (h : s.EvidenceSound) (k : EvalKind) (l : Loc) (n : Nat)
    (ms : List (CondCode × Nat)) : (s.evaluate k l n ms).EvidenceSound := by
  have hcount (b : Bool) : State.EvidenceSound { s with monitor := { s.monitor with
      conds := s.monitor.conds.measure ms, counter := nextCounter b s.monitor.counter } } :=
    h.congr rfl rfl rfl
  rcases s.evaluate_cases k l n ms with e | ⟨b, e | ⟨ha, e⟩ | ⟨source, ha, e⟩⟩ <;> rw [e]
  · exact h.congr rfl rfl rfl
  · exact hcount b
  · exact (hcount b).deactivate ha
  · exact (hcount b).activate ha source

theorem State.EvidenceSound.acknowledge (h : s.EvidenceSound) : s.acknowledge.EvidenceSound := by
  unfold State.acknowledge
  split
  next hactive =>
    refine State.EvidenceSound.deactivate ?_ (Bool.and_eq_true_iff.mp hactive).2
    exact h.congr rfl rfl rfl
  · exact h

theorem State.EvidenceSound.completeOrder (h : s.EvidenceSound) : s.completeOrder.EvidenceSound := by
  unfold State.completeOrder
  dsimp only
  split
  · exact (h.evaluate _ _ _ _).of_eq rfl rfl
  · exact h.of_eq rfl rfl

/-- A copy is offered by an accepted read alone (R52). -/
theorem State.EvidenceSound.arriveRead (h : s.EvidenceSound) (r : DeliveredRead) :
    (s.arriveRead r).EvidenceSound := by
  have hcopy {t : State} (ht : t.EvidenceSound) (x : StampedRead) : (t.offerCopy x).EvidenceSound := by
    rw [State.evidenceSound_iff] at ht ⊢
    rw [State.offerCopy_evidence, State.offerCopy_monitor]
    exact ht.capture x
  unfold State.arriveRead
  split
  · exact h.of_eq rfl rfl
  · split
    · split
      · refine hcopy ?_ _
        exact h.of_eq rfl rfl
      · exact h.of_eq rfl rfl
    · exact h

theorem State.EvidenceSound.moveCounter (h : s.EvidenceSound) (d : Direction) (target : Loc) :
    (s.moveCounter d target).EvidenceSound := by
  unfold State.moveCounter State.deliverCount
  dsimp only
  split
  · exact h.of_eq rfl rfl
  · split
    · refine State.EvidenceSound.evaluate ?_ _ _ _ _
      exact h.of_eq rfl rfl
    · exact h.of_eq rfl rfl

theorem State.EvidenceSound.handOff (h : s.EvidenceSound) (target : Loc) (mode : SweepMode) (bleed : Nat) :
    (s.handOff target mode bleed).EvidenceSound := by
  unfold State.handOff
  refine State.EvidenceSound.evaluate ?_ _ _ _ _
  exact h.of_eq rfl rfl

/-- An opening clears two condition states, not the active state (R69). -/
theorem State.EvidenceSound.openSweep (h : s.EvidenceSound) (target : Loc) (mode : SweepMode) :
    (s.openSweep target mode).EvidenceSound :=
  h.congr rfl rfl rfl

theorem State.EvidenceSound.pressTrigger (h : s.EvidenceSound) : s.pressTrigger.EvidenceSound := by
  unfold State.pressTrigger
  split
  · unfold State.openAttempt
    split
    · exact h.openSweep _ _
    · exact h.of_eq rfl rfl
  · exact h.of_eq rfl rfl
  · exact h.of_eq rfl rfl

theorem State.EvidenceSound.pressCall (h : s.EvidenceSound) : s.pressCall.EvidenceSound := by
  unfold State.pressCall
  split
  · exact h
  · exact h.of_eq rfl rfl

@[simp] theorem State.receive_monitor (s : State) (c : Byte) : (s.receive c).monitor = s.monitor := by
  unfold State.receive
  repeat' split
  all_goals simp

theorem State.EvidenceSound.foldRead (h : s.EvidenceSound) (r : StampedRead) :
    (s.foldRead r).EvidenceSound := by
  unfold State.foldRead
  dsimp only
  split
  · exact h.of_eq rfl rfl
  split <;> exact h.of_eq rfl rfl

theorem State.EvidenceSound.commitEvent (h : s.EvidenceSound) (c : Commit) :
    (s.commitEvent c).EvidenceSound := by
  have hcommitted : (s.committed c).EvidenceSound :=
    h.of_eq (State.committed_monitor s c) (State.committed_evidence s c)
  rw [State.commitEvent_eq]
  split
  · exact hcommitted.completeOrder
  · exact hcommitted

theorem State.EvidenceSound.completeShelfJob (h : s.EvidenceSound) : s.completeShelfJob.EvidenceSound := by
  have hdone : s.shelfJobDone.EvidenceSound := h.of_eq rfl rfl
  rw [State.completeShelfJob_eq]
  split
  · exact hdone.completeOrder
  · exact hdone

end

/-! ## The effects -/

theorem Frees.evidenceSound {s u : State} (hf : Frees s u) (h : s.EvidenceSound) : u.EvidenceSound := by
  cases hf <;> exact h.of_eq rfl rfl

/-- EM begins its mode by the trigger as it stands, ER leaves the phase, RS and DR clear the buffer, and AQ may
end the active state; nothing else a request does concerns the phase (R141, R151 to R153). -/
theorem Performs.evidenceSound {s a : State} (ha : Performs s a) (h : s.EvidenceSound) : a.EvidenceSound := by
  cases ha with
  | nothing => exact h
  | runBegin => exact h.of_eq rfl rfl
  | listItem => exact h.of_eq rfl rfl
  | runClose => exact h.of_eq rfl rfl
  | runReopen => exact h.of_eq rfl rfl
  | discardRun => exact State.evidenceSound_of_reset s.discardRun_evidence
  | cursorSet => exact h.of_eq rfl rfl
  | notice => exact h.of_eq rfl rfl
  | openSweep target mode => exact h.openSweep target mode
  | endSweep => exact h.of_eq rfl rfl
  | abandon => exact h.of_eq rfl rfl
  | dormancy => exact h.of_eq rfl rfl
  | condition => exact h.congr rfl rfl rfl
  | combine => exact h.congr rfl rfl rfl
  | acknowledge => exact h.acknowledge
  | evidenceMode => exact (State.evidenceSound_iff _).mpr (.inl rfl)
  | evidenceRead => exact h.congr rfl rfl rfl
  | setting => exact h.of_eq rfl rfl
  | softReset => exact State.evidenceSound_of_reset rfl

theorem Effect.evidenceSound {s u : State} (he : Effect s u) (h : s.EvidenceSound) : u.EvidenceSound := by
  cases he with
  | replied _ _ _ _ hf => exact (hf.evidenceSound h).of_eq rfl rfl
  | performed _ _ hf ha => exact ha.evidenceSound (hf.evidenceSound h)
  | performedReplied _ _ _ _ hf ha => exact (ha.evidenceSound (hf.evidenceSound h)).of_eq rfl rfl
  | filing => exact h.of_eq rfl rfl
  | barrierWaits => exact h.of_eq rfl rfl
  | fetch => exact h.of_eq rfl rfl
  | character c => exact h.of_eq (s.receive_monitor c) (s.receive_evidence c)
  | transmissionEnd => exact h.of_eq rfl rfl
  | read r => exact h.arriveRead r
  | shelfCount d t => exact h.moveCounter d (.shelf t)
  | looseCount => exact h.of_eq rfl rfl
  | trigger => exact (h.of_eq (s.wake_monitor _) (s.wake_evidence _)).pressTrigger
  | call => exact (h.of_eq (s.wake_monitor _) (s.wake_evidence _)).pressCall
  | switch => exact h.of_eq rfl rfl
  | patternEnd => exact h.of_eq rfl rfl
  | idleExpiry => exact h.of_eq rfl rfl
  | fold r =>
    refine State.EvidenceSound.foldRead ?_ r
    exact h.of_eq rfl rfl
  | handOff target mode bleed => exact h.handOff target mode bleed
  | commit c => exact h.commitEvent c
  | shelfJob => exact h.completeShelfJob
  | runJob => exact h.of_eq rfl rfl

/-- Settles O11: power-on leaves OFF, every effect keeps the phase to the mode and the anomaly, and the
transmitter behind it does not read them. -/
theorem evidencePhaseIsKept : Obligations.EvidencePhaseIsKept := by
  intro s t hs h
  exact step_keeps (H := State.EvidenceSound) (G := State.EvidenceSound) (fun _ _ hs => hs.of_eq rfl rfl)
    (fun _ hs => hs) (fun _ _ _ => State.evidenceSound_of_reset (e := EvidenceBuffer.start) rfl)
    (fun _ u hs he => (he.evidenceSound hs).of_eq u.pump_monitor u.pump_evidence) hs h

end Sys2Proof.Machine
end

section
/-! What the Evidence Buffer does with a copy and with the trigger in each mode and phase, and the requests EM
and ER (R145 to R152). -/

namespace Sys2Proof.Machine

/-! ## Copies and the trigger -/

/-- Settles O23: the copy by the row of its mode and phase, then the trigger by the row of its phase. -/
theorem evidenceCaptureByMode : Obligations.EvidenceCaptureByMode := by
  refine ⟨?_, fun e => ?_⟩
  · intro r e rolled
    have hroll : e.rollIn r = rolled := rfl
    unfold EvidenceBuffer.capture
    refine ⟨fun hm => ?_, fun hm hs => ?_, fun hm hs => ?_, fun hm => ?_, fun hm hp => ?_, fun hm hp => ?_,
      fun hm hp => ?_, fun hm hp => ?_, fun hm hp => ?_⟩
    · rw [hm]
    · simp only [hm, hs, if_true]
    · simp only [hm, hs, Bool.false_eq_true, if_false, EvidenceBuffer.append, List.length_append,
        List.length_singleton]
      rfl
    · simp only [hm, hroll]
    · simp only [hm, hp, hroll]
    · simp only [hm, hp, hroll]
      rfl
    · simp only [hm, hp]
    · simp only [hm, hp]
    · simp only [hm, hp, hroll]
  · unfold EvidenceBuffer.rise EvidenceBuffer.fall
    refine ⟨fun hp => ?_, fun hp => ?_, fun hp => ?_, fun hp => ?_, fun hp => ?_, fun hp => ?_⟩
    all_goals simp only [hp, and_self]

/-! ## The values of EM and ER (R151, R152) -/

theorem evidenceModeOfCode_code (m : EvidenceMode) : evidenceModeOfCode m.code = some m := by
  cases m <;> rfl

theorem evidenceModeOfCode_eq_none {n : Nat} (h : 4 < n) : evidenceModeOfCode n = none := by
  match n, h with
  | n + 5, _ => rfl

theorem EvidenceMode.firstPhase_eq (m : EvidenceMode) (trigger : Bool) :
    m.firstPhase trigger =
      if m = .rollFreeze then (if trigger = true then .freezing else .rolling)
      else if m = .armRoll then (if trigger = true then .capturing else .armed)
      else .none := by
  cases m <;> rfl

theorem pageCount_eq (count : Option Nat) :
    pageCount count = match count with
      | none => 8
      | some k => max 1 (min k 8) := by
  cases count with
  | none => rfl
  | some k => exact clamp_eq_max_min (by decide) k

theorem StampedRead.fields_eq (r : StampedRead) :
    r.fields =
      [.code r.code, .num r.strength.toNat, .letter (if r.antenna = .front then asc 'F' else asc 'B'),
        .num r.position, .num r.sweep, .loc r.target] := by
  unfold StampedRead.fields
  cases r.antenna <;> rfl

/-! ## The commands, once the decision is known (R157, R158) -/

section
variable {s : State} {d : Terminator}

theorem exec_evidenceModeRequest_refused {mode watermark : Nat} (h : CanTake s (.em mode watermark) d)
    (hm : 4 < mode) : exec .evidenceModeRequest s = .next (s.replied .EM .RG []) := by
  change execEvidenceModeRequest s = _
  refine takeRequest_refused h (congrArg some ?_)
  unfold decideEvidenceModeRequest
  rw [evidenceModeOfCode_eq_none hm]

theorem exec_evidenceModeRequest_accepted {m : EvidenceMode} {watermark : Nat}
    (h : CanTake s (.em m.code watermark) d) :
    exec .evidenceModeRequest s = .next (s.accepted
      { s with
        evidence :=
          { records := [], mode := m, phase := m.firstPhase s.monitor.active, watermark := min watermark 63,
            stopped := false, overrun := false } }
      .EM d [.num m.code, .num (min watermark 63)]) := by
  change execEvidenceModeRequest s = _
  refine takeRequest_effective h (congrArg some ?_)
  unfold decideEvidenceModeRequest
  rw [evidenceModeOfCode_code, clamp_zero]
  rfl

/-- ER is always accepted, and its reply gives the flags as the removal leaves them. -/
theorem exec_evidenceReadRequest {count : Option Nat} (h : CanTake s (.er count) d) :
    let returned := s.evidence.records.take (pageCount count)
    let left := s.evidence.remove (pageCount count)
    exec .evidenceReadRequest s = .next (s.accepted { s with evidence := left } .ER d
      ([.num returned.length, .num left.records.length, .flag left.stopped, .flag left.frozen,
        .flag left.overrun, .flag left.aboveWatermark] ++ returned.flatMap StampedRead.fields)) := by
  intro returned left
  change execEvidenceReadRequest s = _
  refine takeRequest_effective h (congrArg some ?_)
  unfold decideEvidenceReadRequest
  dsimp only
  rw [List.flatten_cons, List.flatten_singleton]
  rfl

end

/-- Settles O43: EM's check and the values it takes, and ER's removal with the fields of its reply. -/
theorem evidenceRequests : Obligations.EvidenceRequests := by
  refine ⟨fun s mode watermark d h => ⟨exec_evidenceModeRequest_refused h, ?_⟩, fun s count d h => ?_⟩
  · rintro m rfl
    rw [exec_evidenceModeRequest_accepted h, EvidenceMode.firstPhase_eq]
  · intro e size returned left overrun
    have hsize : pageCount count = size := pageCount_eq count
    have hover : (e.remove size).overrun = overrun :=
      congrArg (e.overrun && ·) (Bool.eq_iff_iff.mpr (by simp))
    have hafter : e.remove size = { e with records := left, overrun := overrun } := by rw [← hover]; rfl
    have hfrozen : e.frozen = decide (e.phase = .frozen) := beq_eq_decide ..
    have hfields : StampedRead.fields = _ := funext StampedRead.fields_eq
    rw [exec_evidenceReadRequest h, hsize, hafter, ← hfields, ← hfrozen]
    rfl

end Sys2Proof.Machine
end

section
/-! The report queue, and the transmitter at the end of a transmission (R156, R158 to R161). -/

namespace Sys2Proof.Machine

/-! ## The queues (R156, R159) -/

theorem LinkUnit.queueReport_call (l : LinkUnit) (h : l.reports.length < 48) :
    l.queueReport .cal = { l with reports := l.reports ++ [.cal], callPending := true } := by
  rw [l.queueReport_room _ h, beq_self_eq_true, Bool.or_true]

theorem LinkUnit.queueReport_other (l : LinkUnit) {r : Report} (h : l.reports.length < 48) (hr : r ≠ .cal) :
    l.queueReport r = { l with reports := l.reports ++ [r] } := by
  rw [l.queueReport_room _ h, beq_eq_false_iff_ne.mpr hr, Bool.or_false]

/-! ## The request that can be taken (R157) -/

theorem State.takeable_eq_none {s : State} (h : ∀ r d, ¬ CanTake s r d) : s.link.takeable = none := by
  cases hx : s.link.takeable with
  | none => rfl
  | some x => exact absurd (State.canTake_of_takeable hx) (h x.req x.disp)

theorem LinkUnit.takeable_of_reply {l : LinkUnit} (h : l.reply ≠ .empty) : l.takeable = none :=
  if_neg (fun hc => h hc.1)

/-- A barrier is due only when it holds the slot, and then no request can be taken. -/
theorem CanTake.dueBarrier {s : State} {r : Request} {d : Terminator} (h : CanTake s r d) :
    s.dueBarrier = none := by
  obtain ⟨-, -, -, hbarrier⟩ := h
  unfold State.dueBarrier
  rw [hbarrier]

/-! ## A free transmitter (R160, R161) -/

section
variable {l : LinkUnit} (hs : l.sending = none)
include hs

theorem LinkUnit.pump_reply {r : Reply} (hr : l.reply = .filled r) :
    l.pump = { l with sending := some (.reply r), reply := .empty } := by
  simp [LinkUnit.pump, hs, LinkUnit.takeable_of_reply (l := l) (by simp [hr]), hr]

variable (ht : l.takeable = none) (hr : ∀ r, l.reply ≠ .filled r)
include ht hr

theorem LinkUnit.pump_queued : l.pump = l.beginQueued := by
  unfold LinkUnit.pump
  rw [hs, ht]
  cases h : l.reply with
  | filled r => exact absurd h (hr r)
  | empty | reserved => rfl

theorem LinkUnit.pump_refusal {r : Reply} {rest : List Reply} (hq : l.refusals = r :: rest) :
    l.pump = { l with sending := some (.reply r), refusals := rest } := by
  rw [LinkUnit.pump_queued hs ht hr, LinkUnit.beginQueued, hq]

variable (hq : l.refusals = [])
include hq

theorem LinkUnit.pump_nothing (hp : l.reports = []) : l.pump = l := by
  rw [LinkUnit.pump_queued hs ht hr, LinkUnit.beginQueued, hq, hp]

variable {r : Report} {rest : List Report} (hp : l.reports = r :: rest)
include hp

theorem LinkUnit.pump_fetched (ha : 0 < l.allowance) : l.pump = (l.beginReport r rest).countFetched := by
  rw [LinkUnit.pump_queued hs ht hr, LinkUnit.beginQueued, hq, hp]
  exact if_pos ha

theorem LinkUnit.pump_streamed (ha : l.allowance = 0) :
    l.pump = if l.streamingInEffect then l.beginReport r rest else l := by
  rw [LinkUnit.pump_queued hs ht hr, LinkUnit.beginQueued, hq, hp]
  exact if_neg (by omega)

end

theorem LinkUnit.streamingInEffect_iff (l : LinkUnit) :
    l.streamingInEffect = true ↔ l.settings.streaming = 1 ∨ l.barrier = some .all := by
  simp [LinkUnit.streamingInEffect]

theorem LinkUnit.beginReport_eq (l : LinkUnit) (r : Report) (rest : List Report) :
    l.beginReport r rest = { l with
      sending := some (.report r), reports := rest, callPending := l.callPending && decide (r ≠ .cal) } := by
  rw [LinkUnit.beginReport, decide_not, bne, beq_eq_decide]

/-- A report of the allowance before the last leaves the slot reserved; the last one has the FE answered. -/
theorem LinkUnit.countFetched_reserved {l : LinkUnit} {k : Nat} {d : Terminator} (h : l.reply = .reserved k d) :
    l.countFetched = { l with
      allowance := l.allowance - 1
      reply := if l.allowance - 1 = 0 then fetchReply (k + 1) l.reports.length d else .reserved (k + 1) d } := by
  unfold LinkUnit.countFetched
  rw [h]

theorem fetchReply_silent {d : Terminator} (h : d ≠ .reply) (sent waiting : Nat) :
    fetchReply sent waiting d = .empty := by
  cases d with
  | reply => exact absurd rfl h
  | perform | check => rfl

/-! ## The end of a transmission (R160) -/

/-- The link once its transmission has ended, the transmitter not yet having begun the next. -/
def LinkUnit.ended (l : LinkUnit) : LinkUnit := { l with sending := none }

theorem exec_transmissionEnd_held {s : State} {sent : Outbound} (hs : s.link.sending = some sent)
    (h : (∃ r d, CanTake s r d) ∨ ∃ x, s.dueBarrier = some x) :
    exec .transmissionEnd s = .next { s with link := s.link.ended } := by
  change execTransmissionEnd s = _
  unfold execTransmissionEnd finish State.pump
  rw [hs]
  have hdue : State.dueBarrier { s with link := { s.link with sending := none } } = s.dueBarrier := rfl
  rw [hdue]
  rcases h with ⟨r, d, hc⟩ | ⟨x, hx⟩
  · have htake : s.link.ended.takeable = some { req := r, disp := d } := State.takeable_of_canTake hc
    rw [hc.dueBarrier]
    exact congrArg (fun l => Host.Outcome.next { s with link := l }) (s.link.ended.pump_takeable _ htake)
  · rw [hx]
    rfl

theorem exec_transmissionEnd_pumped {s : State} {sent : Outbound} (hs : s.link.sending = some sent)
    (h : ¬ ∃ x, s.dueBarrier = some x) :
    exec .transmissionEnd s = .next { s with link := s.link.ended.pump } := by
  change execTransmissionEnd s = _
  unfold execTransmissionEnd finish State.pump
  have hdue : State.dueBarrier { s with link := { s.link with sending := none } } = none :=
    Option.eq_none_iff_forall_ne_some.mpr (fun x hx => h ⟨x, hx⟩)
  rw [hs]
  dsimp only
  rw [hdue]
  rfl

/-- Settles O24: the two queues, a busy transmitter, and R160's four steps at the end of a transmission. -/
theorem reportQueueAndTransmitter : Obligations.ReportQueueAndTransmitter := by
  refine ⟨fun l r => ⟨l.queueRefusal_room r, fun h => l.queueRefusal_full r (Nat.not_lt.mpr h)⟩,
    fun l x => l.pump_busy x, fun s x hs => ?_,
    fun l r => ⟨fun h hr => hr ▸ l.queueReport_call h, l.queueReport_other,
      fun h => l.queueReport_full r (Nat.not_lt.mpr h)⟩, fun s sent hs => ?_⟩
  · rcases s.pump_cases with ⟨_, _, h⟩ | ⟨_, h⟩
    · exact h
    · exact h.trans (by rw [s.link.pump_busy x hs])
  · intro l free streaming due
    have hfree : free.sending = none := rfl
    have next_congr : ∀ {m n : LinkUnit}, m = n →
        (Host.Outcome.next { s with link := m } : Host.Outcome State Fault Refusal) = .next { s with link := n } :=
      fun h => h ▸ rfl
    refine ⟨fun r hr hdue => ?_, exec_transmissionEnd_held hs, fun hr hc hdue => ?_⟩
    · exact (exec_transmissionEnd_pumped hs hdue).trans (next_congr (LinkUnit.pump_reply hfree hr))
    · have htake : free.takeable = none := State.takeable_eq_none hc
      rw [exec_transmissionEnd_pumped hs hdue]
      refine ⟨fun r rest hq => next_congr (LinkUnit.pump_refusal hfree htake hr hq),
        fun hq hp => next_congr (LinkUnit.pump_nothing hfree htake hr hq hp), fun r rest hq hp => ?_⟩
      intro mark begun
      have hallow : begun.allowance = l.allowance := rfl
      have hbegun : free.beginReport r rest = begun := free.beginReport_eq r rest
      refine ⟨fun ha hst => next_congr ?_, fun ha hst => next_congr ?_, fun k d hk => ?_⟩
      · exact (LinkUnit.pump_streamed hfree htake hr hq hp ha).trans
          (if_neg (free.streamingInEffect_iff.not.mpr hst))
      · exact (LinkUnit.pump_streamed hfree htake hr hq hp ha).trans
          ((if_pos (free.streamingInEffect_iff.mpr hst)).trans hbegun)
      · have hfetched : 0 < l.allowance → free.pump = _ := fun ha =>
          (LinkUnit.pump_fetched hfree htake hr hq hp ha).trans
            ((congrArg _ hbegun).trans (LinkUnit.countFetched_reserved (l := begun) hk))
        refine ⟨fun ha => next_congr ?_, fun ha hd => next_congr ?_, fun ha hd => next_congr ?_⟩
        · exact (hfetched (by omega)).trans (by rw [if_neg (by omega)])
        · exact (hfetched (by omega)).trans (by rw [hallow, ha, hd]; rfl)
        · exact (hfetched (by omega)).trans (by rw [hallow, ha, fetchReply_silent hd]; rfl)

end Sys2Proof.Machine
end

section
/-! The requests FE and BA, and the completion of a waiting barrier (R158, R160, R161, R164). -/

namespace Sys2Proof.Machine

/-! ## FE (R161) -/

theorem fetchCount_eq (count : Option Nat) : fetchCount count = match count with
    | none => 16
    | some k => max 1 (min k 16) := by
  cases count with
  | none => rfl
  | some k => exact clamp_eq_max_min (by decide) k

theorem one_le_fetchCount (count : Option Nat) : 1 ≤ fetchCount count := by
  cases count with
  | none => decide
  | some k => exact (clamp_bounds k (by decide)).1

/-- FE is checked, or performed on the freed slot. -/
theorem exec_fetchRequest {s : State} {count : Option Nat} {d : Terminator} (h : CanTake s (.fe count) d) :
    exec .fetchRequest s =
      .next (if d = .check then s.replied .FE .CK [] else (s.freeSlot.fetch count d).settled) := by
  change execFetchRequest s = _
  unfold execFetchRequest
  rw [State.takeable_of_canTake h]
  by_cases hd : d = .check
  · exact (if_pos hd).trans ((congrArg Host.Outcome.next (State.pump_freed _ rfl)).trans (by rw [if_pos hd]; rfl))
  · exact (if_neg hd).trans (by rw [if_neg hd]; rfl)

/-- With no report waiting FE ends as any request does whose reply is two zeros. -/
theorem State.fetch_nothing {s : State} {count : Option Nat} {d : Terminator} (h : CanTake s (.fe count) d)
    (hd : d ≠ .check) (hw : s.link.reports.length = 0) :
    (s.freeSlot.fetch count d).settled =
      State.accepted s { s with link := { s.link with allowance := 0 } } .FE d [.num 0, .num 0] := by
  have hempty : ReplySlot.empty = s.link.reply := h.2.1.symm
  have hfetch : s.freeSlot.fetch count d =
      { s.freeSlot with link := { s.freeSlot.link with allowance := 0, reply := fetchReply 0 0 d } } := by
    simp only [State.fetch, State.freeSlot_link, hw, Nat.min_zero, if_true]
  rw [State.settled, State.pump_freed _ (by rw [hfetch]; rfl), hfetch]
  cases d with
  | check => exact absurd rfl hd
  | reply => rfl
  | perform => rw [fetchReply_silent (by decide), hempty]; rfl

/-- Settles O45: the check, the reservation with reports waiting, and the reply at once with none. -/
theorem fetchReservesTheReplySlot : Obligations.FetchReservesTheReplySlot := by
  intro s count d h size waiting reserved nothing
  have hsize : fetchCount count = size := fetchCount_eq count
  have hpos : 1 ≤ size := hsize ▸ one_le_fetchCount count
  rw [exec_fetchRequest h]
  refine ⟨fun hd => by rw [if_pos hd], fun hd hw => ?_, fun hd hw => ?_⟩
  · have hfetch : s.freeSlot.fetch count d = reserved := by
      have hmin : min size s.link.reports.length ≠ 0 := by omega
      simp only [State.fetch, State.freeSlot_link, hsize, if_neg hmin]
      rfl
    rw [if_neg hd, hfetch]
  · rw [if_neg hd, State.fetch_nothing h hd hw]

/-! ## BA (R164) -/

theorem SweepPhase.idle_or_opened_iff (p : SweepPhase) :
    p = .idle ∨ p = .opened ↔ ¬ (p = .finalize ∨ p = .commit ∨ p = .order) := by
  cases p <;> decide

theorem State.barrierHolds_iff (s : State) (scope : BarrierScope) : s.barrierHolds scope = true ↔
    (s.sweep.phase = .idle ∨ s.sweep.phase = .opened) ∧ s.table.run ≠ .closing ∧
      (scope = .all → s.link.reports = []) := by
  cases scope <;> simp [State.barrierHolds, and_assoc]

theorem State.dueBarrier_eq_some {s : State} {x : Held} : s.dueBarrier = some x ↔
    s.link.slot = some x ∧ ∃ scope, s.link.barrier = some scope ∧ s.barrierHolds scope = true := by
  unfold State.dueBarrier
  cases s.link.barrier with
  | none => simp
  | some scope => by_cases h : s.barrierHolds scope = true <;> simp [h]

theorem exec_barrierCompletion_due {s : State} {x : Held} (h : s.dueBarrier = some x) :
    exec .barrierCompletion s = .next (s.completeBarrier x.disp).pump := by
  change execBarrierCompletion s = _
  unfold execBarrierCompletion
  rw [h]
  rfl

theorem exec_barrierCompletion_idle {s : State} (h : s.dueBarrier = none) :
    exec .barrierCompletion s = .next s := by
  change execBarrierCompletion s = _
  unfold execBarrierCompletion
  rw [h]

theorem endedSweepFields_opened (s : State) :
    endedSweepFields (s.sweep.phase == .opened) s.sweep.record.number =
      if s.sweep.phase = .opened then [.num 1, .num s.sweep.record.number] else [.num 0, .absent] := by
  simp only [endedSweepFields, beq_iff_eq]

/-- The completion of a barrier ends as a request does that its owner accepts, with no barrier waiting. -/
theorem State.completeBarrier_pump (s : State) (d : Terminator) :
    (s.completeBarrier d).pump =
      State.accepted { s with link := { s.link with barrier := none } }
        { s with link := { s.link with barrier := none } } .BA d
        (endedSweepFields (s.sweep.phase == .opened) s.sweep.record.number) := by
  cases d <;> exact State.pump_freed _ rfl

theorem exec_barrierRequest {s : State} {scope : BarrierScope} {d : Terminator} (h : CanTake s (.ba scope) d) :
    exec .barrierRequest s =
      if d = .check ∨ s.barrierHolds scope = true then .next (s.completeBarrier d).pump
      else .next (State.settled { s with link := { s.link with barrier := some scope } }) := by
  change execBarrierRequest s = _
  unfold execBarrierRequest
  rw [State.takeable_of_canTake h]
  rfl

/-- Settles O46: when a barrier is due, what its being due holds up, and its completion at the taking and later. -/
theorem barriersWaitForTheirCondition : Obligations.BarriersWaitForTheirCondition := by
  refine ⟨fun s x => ?_, fun s => ⟨fun x hx => ?_, fun hx => ?_⟩, fun s x hx hd hs => ?_, fun s scope d => ?_⟩
  · rw [State.dueBarrier_eq_some, and_congr_right_iff]
    intro _
    simp only [State.barrierHolds_iff]
    constructor
    · rintro ⟨scope, hb, hphase, hrun, hempty⟩
      cases scope with
      | engine => exact ⟨hphase, hrun, .inl hb⟩
      | all => exact ⟨hphase, hrun, .inr ⟨hb, hempty rfl⟩⟩
    · rintro ⟨hphase, hrun, hb | ⟨hb, hempty⟩⟩
      · exact ⟨.engine, hb, hphase, hrun, nofun⟩
      · exact ⟨.all, hb, hphase, hrun, fun _ => hempty⟩
  · unfold State.settled State.pump
    rw [hx]
  · unfold State.settled State.pump
    rw [hx]
  · rw [exec_barrierCompletion_due hx, hd, State.completeBarrier_pump, endedSweepFields_opened]
    let replied : LinkUnit := { s.link with
      slot := none
      barrier := none
      reply := .filled { word := RequestWord.BA.text, code := .OK, fields :=
        if s.sweep.phase = .opened then [.num 1, .num s.sweep.record.number] else [.num 0, .absent] } }
    exact congrArg (fun l => Host.Outcome.next { s with link := l }) (LinkUnit.pump_reply (l := replied) hs rfl)
  · intro closing holds fields
    have hiff : s.barrierHolds scope = true ↔ holds := by
      rw [State.barrierHolds_iff, SweepPhase.idle_or_opened_iff]
      tauto
    have hfields : endedSweepFields (s.sweep.phase == .opened) s.sweep.record.number = fields :=
      endedSweepFields_opened s
    refine ⟨fun h => ?_, fun hb hslot hd => ?_⟩
    · obtain ⟨-, -, -, hbarrier⟩ := id h
      have hsame : ({ s with link := { s.link with barrier := none } } : State) = s := by rw [← hbarrier]
      rw [exec_barrierRequest h, State.completeBarrier_pump, hfields, hsame]
      exact ⟨fun hc => if_pos (hc.imp_right hiff.mpr), fun hd hn => if_neg (not_or_intro hd (hiff.not.mpr hn))⟩
    · refine ⟨fun hh => ?_, fun hn => exec_barrierCompletion_idle ?_⟩
      · have hdue := State.dueBarrier_eq_some.mpr ⟨hslot, scope, hb, hiff.mpr hh⟩
        rw [exec_barrierCompletion_due hdue, State.completeBarrier_pump, hfields]
        exact congrArg Host.Outcome.next (if_neg hd)
      · refine Option.eq_none_iff_forall_ne_some.mpr (fun x hx => hn ?_)
        obtain ⟨-, scope', hb', hh⟩ := State.dueBarrier_eq_some.mp hx
        cases hb.symm.trans hb'
        exact hiff.mp hh

end Sys2Proof.Machine
end

section
/-! Requests in general: what their owners may refuse with, and the events whose occasion is not there (R61, R74,
R77, R155, R157, R158, R163). -/

namespace Sys2Proof.Machine

/-! ## The code of a refusal (R158) -/

/-- A decision refuses, where it does, with a code that says so: neither OK nor CK. -/
def Decision.RefusesAsSuch : Decision → Prop
  | .refuse code _ => code ≠ .OK ∧ code ≠ .CK
  | .accept _ _ => True

@[simp] theorem Decision.refusesAsSuch_refuse (code : StatusCode) (fields : List Field) :
    (Decision.refuse code fields).RefusesAsSuch ↔ code ≠ .OK ∧ code ≠ .CK := Iff.rfl

@[simp] theorem Decision.refusesAsSuch_accept (t : State) (fields : List Field) :
    (Decision.accept t fields).RefusesAsSuch := trivial

/-- Under `=` a decision answers CK or its refusal, and changes nothing else. -/
theorem answer_check (s : State) (w : RequestWord) {x : Decision} (hx : x.RefusesAsSuch) :
    ∃ code fields, code ≠ .OK ∧ (code = .CK → fields = []) ∧
      (finish (answer w .check s.freeSlot x)) = .next (s.replied w code fields) := by
  cases x with
  | refuse code fields =>
    exact ⟨code, fields, hx.1, fun h => absurd h hx.2, congrArg Host.Outcome.next (State.pump_freed _ rfl)⟩
  | accept t fields =>
    exact ⟨.CK, [], nofun, fun _ => rfl, congrArg Host.Outcome.next (State.pump_freed _ rfl)⟩

section
variable (s : State)

theorem decideRunBegin_refusesAsSuch (b v w n : Nat) : (decideRunBegin b v w n s).RefusesAsSuch := by
  unfold decideRunBegin
  repeat' split
  all_goals simp

theorem decideRunClose_refusesAsSuch (force : Nat) : (decideRunClose force s).RefusesAsSuch := by
  unfold decideRunClose
  repeat' split
  all_goals simp

theorem decideRunReopen_refusesAsSuch : (decideRunReopen s).RefusesAsSuch := by
  unfold decideRunReopen
  repeat' split
  all_goals simp

theorem decideCursorSet_refusesAsSuch (shelf : Nat) : (decideCursorSet shelf s).RefusesAsSuch := by
  unfold decideCursorSet
  repeat' split
  all_goals simp

theorem decideCirculationNotice_refusesAsSuch (code status : Nat) :
    (decideCirculationNotice code status s).RefusesAsSuch := by
  unfold decideCirculationNotice
  dsimp only
  repeat' split
  all_goals simp

@[simp] theorem CountTable.answerEntry_refusesAsSuch (c : CountTable) (e : Option Entry) :
    (c.answerEntry s e).RefusesAsSuch := by
  cases e <;> simp [CountTable.answerEntry]

theorem decideEntryQuery_refusesAsSuch (selector key : Nat) : (decideEntryQuery selector key s).RefusesAsSuch := by
  unfold decideEntryQuery
  repeat' split
  all_goals simp

theorem decideVerdictQuery_refusesAsSuch (verdict start : Nat) (count : Option Nat) :
    (decideVerdictQuery verdict start count s).RefusesAsSuch := by
  unfold decideVerdictQuery
  repeat' split
  all_goals simp

theorem decideLocationQuery_refusesAsSuch (number : Nat) : (decideLocationQuery number s).RefusesAsSuch := by
  unfold decideLocationQuery
  repeat' split
  all_goals simp

theorem decideCoverageRequest_refusesAsSuch : (decideCoverageRequest s).RefusesAsSuch := by
  unfold decideCoverageRequest
  repeat' split
  all_goals simp

theorem decideForeignListQuery_refusesAsSuch (start : Nat) (count : Option Nat) :
    (decideForeignListQuery start count s).RefusesAsSuch := by
  unfold decideForeignListQuery
  repeat' split
  all_goals simp

theorem decideOpenRequest_refusesAsSuch (target mode : Nat) : (decideOpenRequest target mode s).RefusesAsSuch := by
  unfold decideOpenRequest
  repeat' split
  all_goals simp

theorem decideEndRequest_refusesAsSuch : (decideEndRequest s).RefusesAsSuch := by
  unfold decideEndRequest
  repeat' split
  all_goals simp

theorem decideAbandonRequest_refusesAsSuch : (decideAbandonRequest s).RefusesAsSuch := by
  unfold decideAbandonRequest
  repeat' split
  all_goals simp

theorem decideDormancyRequest_refusesAsSuch : (decideDormancyRequest s).RefusesAsSuch := by
  unfold decideDormancyRequest
  repeat' split
  all_goals simp

theorem decideConditionRequest_refusesAsSuch (code threshold enable : Nat) :
    (decideConditionRequest code threshold enable s).RefusesAsSuch := by
  unfold decideConditionRequest
  repeat' split
  all_goals simp

theorem decideModeRequest_refusesAsSuch (combine latch duration : Nat) :
    (decideModeRequest combine latch duration s).RefusesAsSuch := by
  unfold decideModeRequest
  repeat' split
  all_goals simp

theorem decideEvidenceModeRequest_refusesAsSuch (mode watermark : Nat) :
    (decideEvidenceModeRequest mode watermark s).RefusesAsSuch := by
  unfold decideEvidenceModeRequest
  repeat' split
  all_goals simp

end

/-! ## The eight ST commands (R163) -/

/-- The eight commands that take an ST. -/
def settingCommands : List Instr :=
  [.stStrengthFloor, .stBleedRatio, .stOrderTolerance, .stIdleLimit, .stAttentionMode, .stAttentionEnables,
    .stStreaming, .stReadoutSelection]

theorem commandOf_st_mem (id v : Nat) : commandOf (.st id v) ∈ settingCommands := by
  unfold commandOf
  split <;> simp_all [settingCommands]

/-- The command named for an ST of a setting's id sets that setting. -/
theorem commandOf_st_of_good : ∀ {id : Nat}, badSettingId id = false → ∀ v, ∃ lo hi put, lo ≤ hi ∧
    ∀ s, exec (commandOf (.st id v)) s = takeRequest (decideSetting id lo hi put) s
  | 1, _, _ => ⟨0, 254, _, by decide, fun _ => rfl⟩
  | 2, _, _ => ⟨1, 64, _, by decide, fun _ => rfl⟩
  | 3, _, _ => ⟨10, 200, _, by decide, fun _ => rfl⟩
  | 4, _, _ => ⟨5, 120, _, by decide, fun _ => rfl⟩
  | 5, _, _ => ⟨0, 2, _, by decide, fun _ => rfl⟩
  | 6, _, _ => ⟨0, 3, _, by decide, fun _ => rfl⟩
  | 7, _, _ => ⟨0, 1, _, by decide, fun _ => rfl⟩
  | 8, _, _ => ⟨0, 3, _, by decide, fun _ => rfl⟩
  | 0, h, _ => absurd h (by decide)
  | n + 9, h, _ => absurd h (by simp [badSettingId])

theorem mem_settingCommands {c : Instr} (hc : c ∈ settingCommands) :
    ∃ id, badSettingId id = false ∧ ∀ v, c = commandOf (.st id v) := by
  simp only [settingCommands, List.mem_cons, List.not_mem_nil, or_false] at hc
  rcases hc with rfl | rfl | rfl | rfl | rfl | rfl | rfl | rfl
  exacts [⟨1, rfl, fun _ => rfl⟩, ⟨2, rfl, fun _ => rfl⟩, ⟨3, rfl, fun _ => rfl⟩, ⟨4, rfl, fun _ => rfl⟩,
    ⟨5, rfl, fun _ => rfl⟩, ⟨6, rfl, fun _ => rfl⟩, ⟨7, rfl, fun _ => rfl⟩, ⟨8, rfl, fun _ => rfl⟩]

/-- Each of the eight sets the setting of one id, and is the command named for an ST of that id. -/
theorem settingCommand_owner {c : Instr} (hc : c ∈ settingCommands) : ∃ id lo hi put,
    badSettingId id = false ∧ (∀ v, c = commandOf (.st id v)) ∧
      ∀ s, exec c s = takeRequest (decideSetting id lo hi put) s := by
  obtain ⟨id, hgood, hown⟩ := mem_settingCommands hc
  obtain ⟨lo, hi, put, -, hexec⟩ := commandOf_st_of_good hgood 0
  exact ⟨id, lo, hi, put, hgood, hown, hown 0 ▸ hexec⟩

section
variable {id lo hi : Nat} {put : Nat → Settings → Settings} {s : State}

/-- The command of a setting decides on an ST of its own id and on one whose id names no setting. -/
theorem decideSetting_takes {c : Instr} (hc : c ∈ settingCommands) (hown : ∀ v, c = commandOf (.st id v))
    {r : Request} (h : decideSetting id lo hi put r s ≠ none) : Takes c r := by
  unfold decideSetting at h
  split at h
  next i v =>
    split_ifs at h with hi hbad
    · exact .inl (hi ▸ hown v)
    · exact .inr ⟨i, v, rfl, by simpa [badSettingId] using hbad, hc⟩
    · exact absurd rfl h
  · exact absurd rfl h

theorem takeSetting_taken {v : Nat} {d : Terminator} (h : CanTake s (.st id v) d) (hle : lo ≤ hi) :
    takeRequest (decideSetting id lo hi put) s = .next (s.accepted
      { s with link := { s.link with settings := put (max lo (min v hi)) s.link.settings } } .ST d
      [.num id, .num (max lo (min v hi))]) := by
  refine takeRequest_effective h ((if_pos rfl).trans ?_)
  rw [clamp_eq_max_min hle]
  rfl

theorem exec_setting_refused {c : Instr} (hc : c ∈ settingCommands) {v : Nat} {d : Terminator}
    (h : CanTake s (.st id v) d) (hbad : badSettingId id = true) :
    exec c s = .next (s.replied .ST .RG []) := by
  obtain ⟨own, lo, hi, put, hgood, -, hexec⟩ := settingCommand_owner hc
  rw [hexec]
  have hne : id ≠ own := fun he => by simp [he, hgood] at hbad
  exact takeRequest_refused h ((if_neg hne).trans (if_pos (by simpa [badSettingId] using hbad)))

end

/-- Settles O44: each ST command on an ST of its id, and all of them on one whose id names no setting. -/
theorem settingsTakeClampedValues : Obligations.SettingsTakeClampedValues := by
  intro s id v d h t within taken refused
  refine ⟨?_, ?_, ?_, ?_, ?_, ?_, ?_, ?_, fun hid => ?_⟩
  iterate 8
    · rintro rfl
      exact takeSetting_taken h (by decide)
  · have hbad : badSettingId id = true := by
      simp only [badSettingId, Bool.or_eq_true, decide_eq_true_eq]
      omega
    have hrefused : ∀ c ∈ settingCommands, exec c s = .next refused :=
      fun c hc => exec_setting_refused hc h hbad
    simpa [settingCommands] using hrefused

/-! ## A check (R155, R158) -/

/-- FE and BA are answered CK; an ST as its setting or its refusal has it; every other by its owner's decision. -/
theorem checksChangeNothing : Obligations.ChecksChangeNothing := by
  intro s r hli h
  have hdecided : ∀ (meaning : State → Host.Outcome State Fault Refusal) {x : Decision},
      exec (commandOf r) = meaning → x.RefusesAsSuch → meaning s = finish (answer r.word .check s.freeSlot x) →
      ∃ code fields, code ≠ .OK ∧ (code = .CK → fields = []) ∧
        exec (commandOf r) s = .next (s.replied r.word code fields) :=
    fun meaning _ hexec hx htaken => hexec ▸ htaken ▸ answer_check s r.word hx
  cases r with
  | rb b v w n => exact hdecided execRunBegin rfl (decideRunBegin_refusesAsSuch _ b v w n) (takeRequest_taken h rfl)
  | li rank code shelf status watch => exact absurd rfl (hli rank code shelf status watch)
  | cr force => exact hdecided execRunClose rfl (decideRunClose_refusesAsSuch _ force) (takeRequest_taken h rfl)
  | ro => exact hdecided execRunReopen rfl (decideRunReopen_refusesAsSuch _) (takeRequest_taken h rfl)
  | dr => exact hdecided execDiscardRun rfl (Decision.refusesAsSuch_accept _ _) (takeRequest_taken h rfl)
  | sc shelf => exact hdecided execCursorSet rfl (decideCursorSet_refusesAsSuch _ shelf) (takeRequest_taken h rfl)
  | cn code status =>
    exact hdecided execCirculationNotice rfl (decideCirculationNotice_refusesAsSuch _ code status)
      (takeRequest_taken h rfl)
  | qe selector key =>
    exact hdecided execEntryQuery rfl (decideEntryQuery_refusesAsSuch _ selector key) (takeRequest_taken h rfl)
  | qv verdict start count =>
    exact hdecided execVerdictQuery rfl (decideVerdictQuery_refusesAsSuch _ verdict start count)
      (takeRequest_taken h rfl)
  | qh number =>
    exact hdecided execLocationQuery rfl (decideLocationQuery_refusesAsSuch _ number) (takeRequest_taken h rfl)
  | os target mode =>
    exact hdecided execOpenRequest rfl (decideOpenRequest_refusesAsSuch _ target mode) (takeRequest_taken h rfl)
  | es => exact hdecided execEndRequest rfl (decideEndRequest_refusesAsSuch _) (takeRequest_taken h rfl)
  | as => exact hdecided execAbandonRequest rfl (decideAbandonRequest_refusesAsSuch _) (takeRequest_taken h rfl)
  | dorm => exact hdecided execDormancyRequest rfl (decideDormancyRequest_refusesAsSuch _) (takeRequest_taken h rfl)
  | ac code threshold enable =>
    exact hdecided execConditionRequest rfl (decideConditionRequest_refusesAsSuch _ code threshold enable)
      (takeRequest_taken h rfl)
  | am combine latch duration =>
    exact hdecided execModeRequest rfl (decideModeRequest_refusesAsSuch _ combine latch duration)
      (takeRequest_taken h rfl)
  | aq => exact hdecided execAcknowledgeRequest rfl (Decision.refusesAsSuch_accept _ _) (takeRequest_taken h rfl)
  | em mode watermark =>
    exact hdecided execEvidenceModeRequest rfl (decideEvidenceModeRequest_refusesAsSuch _ mode watermark)
      (takeRequest_taken h rfl)
  | er count => exact hdecided execEvidenceReadRequest rfl (Decision.refusesAsSuch_accept _ _) (takeRequest_taken h rfl)
  | ts mask => exact hdecided execTestRequest rfl (Decision.refusesAsSuch_accept _ _) (takeRequest_taken h rfl)
  | cv => exact hdecided execCoverageRequest rfl (decideCoverageRequest_refusesAsSuch _) (takeRequest_taken h rfl)
  | qs => exact hdecided execStatusRequest rfl (Decision.refusesAsSuch_accept _ _) (takeRequest_taken h rfl)
  | qf start count =>
    exact hdecided execForeignListQuery rfl (decideForeignListQuery_refusesAsSuch _ start count)
      (takeRequest_taken h rfl)
  | rs => exact hdecided execSoftReset rfl (Decision.refusesAsSuch_accept _ _) (takeRequest_taken h rfl)
  | fe count =>
    exact ⟨.CK, [], nofun, fun _ => rfl, (fetchReservesTheReplySlot s count .check h).1 rfl⟩
  | ba scope =>
    exact ⟨.CK, [], nofun, fun _ => rfl,
      ((barriersWaitForTheirCondition.2.2.2 s scope .check).1 h).1 (.inl rfl)⟩
  | st id v =>
    by_cases hbad : badSettingId id = true
    · exact ⟨.RG, [], nofun, nofun, exec_setting_refused (commandOf_st_mem id v) h hbad⟩
    · obtain ⟨lo, hi, put, hle, hexec⟩ := commandOf_st_of_good (Bool.eq_false_iff.mpr hbad) v
      exact ⟨.CK, [], nofun, fun _ => rfl, (hexec s).trans (takeSetting_taken h hle)⟩

/-! ## Events without their occasion (R61, R74, R77, R157) -/

/-- A command whose owner decides only on requests it takes does not occur without one. -/
theorem takeRequest_untaken {c : Instr} {s : State} {decide : Request → State → Option Decision}
    (hd : ∀ r u, decide r u ≠ none → Takes c r) (hn : ∀ r d, CanTake s r d → ¬ Takes c r) :
    takeRequest decide s = .next s :=
  takeRequest_none (fun r d hc => by_contra (fun h => hn r d hc (hd r _ h)))

theorem exec_setting_untaken {c : Instr} (hc : c ∈ settingCommands) {s : State}
    (hn : ∀ r d, CanTake s r d → ¬ Takes c r) : exec c s = .next s := by
  obtain ⟨id, lo, hi, put, -, hown, hexec⟩ := settingCommand_owner hc
  rw [hexec]
  exact takeRequest_untaken (fun r u => decideSetting_takes hc hown) hn

/-- The command of a request does not occur with none of its requests to take. -/
theorem exec_commandOf_untaken {s : State} (r : Request)
    (hn : ∀ r' d, CanTake s r' d → ¬ Takes (commandOf r) r') : exec (commandOf r) s = .next s := by
  cases r with
  | st id v => exact exec_setting_untaken (commandOf_st_mem id v) hn
  | li | fe | ba =>
    dsimp only [commandOf, exec, execListItem, execFetchRequest, execBarrierRequest]
    split
    next htake => exact absurd (.inl rfl) (hn _ _ (State.canTake_of_takeable htake))
    · rfl
  | rb | cr | ro | dr | sc | cn | qe | qv | qh | os | es | as | dorm | ac | am | aq | em | er | ts | cv | qs | qf
  | rs =>
    dsimp only [commandOf, exec]
    refine takeRequest_untaken (fun r u h => ?_) hn
    split at h
    · exact .inl rfl
    · exact absurd rfl h

theorem SweepPhase.folds_iff {p : SweepPhase} : p.folds = true ↔ p = .opened ∨ p = .finalize := by
  cases p <;> decide

/-- Settles O26: the commands that take a request, and the completions of what is not in progress. -/
theorem eventsWithoutOccasionChangeNothing : Obligations.EventsWithoutOccasionChangeNothing := by
  refine ⟨fun s c htakes hn => ?_, fun s => ⟨fun h => ?_, fun h => ?_, fun h => ?_, fun h => ?_, fun h => ?_,
    fun h => ?_, fun h => ?_, fun h => ?_, fun h => ?_, fun h => ?_, fun r h => ?_⟩⟩
  · obtain ⟨r, rfl | ⟨id, v, rfl, -, hc⟩⟩ := htakes
    · exact exec_commandOf_untaken r hn
    · exact exec_setting_untaken hc hn
  · dsimp only [exec, execListItemFilingCompletion]
    rw [h]
    rfl
  · exact exec_barrierCompletion_idle (by rw [State.dueBarrier, h])
  · dsimp only [exec, execTransmissionEnd]
    rw [h]
  · dsimp only [exec, execBuzzerPatternEnd]
    rw [h]
  · dsimp only [exec, execIdleExpiry]
    split
    next hp => exact absurd hp h
    · rfl
  · dsimp only [exec, execReadFold]
    split
    next hfolds hqueue =>
      rcases h with h | ⟨hopened, hfinalize⟩
      · simp [h] at hqueue
      · exact absurd hfolds (by rw [SweepPhase.folds_iff]; exact not_or_intro hopened hfinalize)
    · rfl
  · dsimp only [exec, execHandOff]
    split
    next hp hqueue _ => exact absurd (h.resolve_left (not_not_intro hp)) (not_not_intro hqueue)
    · rfl
  · dsimp only [exec, execCommit]
    split
    next hp _ => exact absurd hp h
    · rfl
  · dsimp only [exec, execShelfJobCompletion]
    split
    next t ht => exact absurd ht (h t)
    · rfl
  · dsimp only [exec, execRunWideJobCompletion]
    split
    next hrun => exact absurd hrun h
    · rfl
  · dsimp only [exec, execTagRead]
    rw [h]

end Sys2Proof.Machine
end

section
/-! The status summary (R85, R167). -/

namespace Sys2Proof.Machine

theorem Field.branch_eq (n : Nat) : Field.branch n = if n < 2 ^ 24 then .num n else .guarded :=
  if_congr (by simp only [Config.branchReportMax]; omega) rfl rfl

theorem headSightingFields_eq (xs : List Sighting) : headSightingFields xs = match xs.head? with
    | some x => [.code x.code, .num x.reads, .branch x.moment, .branch x.front, .branch x.back, .num x.scale,
        .flag x.frozen]
    | none => List.replicate 7 .absent := by
  cases xs <;> rfl

theorem CountTable.totalFields_eq (c : CountTable) : c.totalFields =
    if c.run = .empty ∨ c.run = .loading then List.replicate 15 .absent
    else Verdict.all.map (fun v => .num (c.total v)) ++
      [.num (c.entries.countP Entry.conflict), .num (c.entries.countP Entry.recovered), .num c.foreign.length,
        .num c.overflow] := by
  rw [CountTable.totalFields]
  by_cases h : c.run.hasVerdicts = true
  · rw [if_pos h, if_neg (RunState.hasVerdicts_eq_false.not.mp (by simp [h])), CountTable.allTotals,
      CountTable.totals, List.map_append, List.map_map]
    rfl
  · rw [if_neg h, if_pos (RunState.hasVerdicts_eq_false.mp (by simpa using h))]
    rfl

/-- Settles O38: the seven groups of the summary, one after the other. -/
theorem statusSummary : Obligations.StatusSummary := by
  intro s d h c r e early run sweep branch head port count rest
  change execStatusRequest s = _
  refine takeRequest_effective h (congrArg (fun fields => some (Decision.accept s.freeSlot fields)) ?_)
  have hbranch : Field.branch = branch := funext Field.branch_eq
  have hhead : headSightingFields s.sweep.sightings = head := by
    have heq := headSightingFields_eq s.sweep.sightings
    rw [hbranch] at heq
    exact heq
  have hsweep : s.sweep.statusFields = sweep := by
    simp only [SweepUnit.statusFields, OpenRecord.statusFields, sweep, r]
    rcases s.sweep.record.mode with _ | _ | _ <;> rfl
  have hport : [Field.num s.port.position, .flag (s.port.dormancy == .dormant), .num s.port.drops] = port := by
    rw [beq_eq_decide, Field.flag]
    simp only [decide_eq_true_eq]
    rfl
  have hcount : s.table.totalFields = count := s.table.totalFields_eq
  have hflags : e.statusFields = [.num e.mode.code, .num e.phase.code, .num e.records.length, .num e.watermark,
      .flag e.stopped, .flag (decide (e.phase = .frozen)), .flag e.overrun,
      .flag (decide (e.watermark < e.records.length))] := by
    rw [EvidenceBuffer.statusFields, EvidenceBuffer.frozen, beq_eq_decide]
    rfl
  have hswitch : Field.flag (s.panel.switch == .localMode) = .num (if s.panel.switch = .localMode then 1 else 0) := by
    rw [beq_eq_decide, Field.flag]
    simp only [decide_eq_true_eq]
  change s.statusFields = _
  rw [State.statusFields, hsweep, hhead, hport, hcount, hflags, hswitch]
  simp only [List.flatten_cons, List.flatten_nil, List.append_nil, List.append_assoc]
  rfl

end Sys2Proof.Machine
end

section
/-! The parser: the characters that complete no record, and the fate of the record a terminator completes (R155 to
R157, R160). -/

namespace Sys2Proof.Machine

/-! ## Characters (R155) -/

theorem wellFormed_uartCharacter_iff (c : Byte) :
    WellFormed (.uartCharacter c) = true ↔ c ≠ 59 ∧ c ≠ 63 ∧ c ≠ 61 := by
  simp only [WellFormed, Bool.and_eq_true, bne_iff_ne, and_assoc]
  rfl

theorem terminatorOf_eq_none {c : Byte} (h : WellFormed (.uartCharacter c) = true) : terminatorOf c = none := by
  obtain ⟨h1, h2, h3⟩ := (wellFormed_uartCharacter_iff c).mp h
  exact (if_neg h1).trans ((if_neg h2).trans (if_neg h3))

theorem terminatorOf_terminatorChar (d : Terminator) : terminatorOf (terminatorChar d) = some d := by
  cases d <;> decide

theorem isCrLf_iff (c : Byte) : isCrLf c = true ↔ c = 13 ∨ c = 10 := by
  simp only [isCrLf, Bool.or_eq_true, decide_eq_true_eq]
  exact or_congr (BitVec.toNat_inj (y := 13)) (BitVec.toNat_inj (y := 10))

/-! ## A character that completes no record (R155) -/

theorem LinkUnit.wordComplete_iff (l : LinkUnit) :
    l.wordComplete = true ↔ l.parser = .inWord ∧ l.buffer.length = 2 := by
  simp [LinkUnit.wordComplete]

/-- The parser's table, read by the state it goes to. -/
theorem LinkUnit.nextParser_eq (l : LinkUnit) (c : Byte) : l.nextParser c =
    if (l.parser = .awaitWord ∧ isLetter c = true) ∨
      (l.parser = .inWord ∧ l.buffer.length ≠ 2 ∧ isLetter c = true) then .inWord
    else if (l.parser = .inWord ∧ l.buffer.length = 2 ∧ c = asc ',') ∨
      (l.parser = .inField ∧ (isLetter c = true ∨ isDigit c = true ∨ c = asc ',')) then .inField
    else .discarding := by
  unfold LinkUnit.nextParser
  cases hp : l.parser with
  | awaitWord => simp
  | inWord => by_cases h2 : l.buffer.length = 2 <;> simp [LinkUnit.wordComplete, hp, h2]
  | inField => simp [or_assoc]
  | discarding => simp

/-- A character is ignored while a record is discarded, and CR and LF also before a record begins. -/
def LinkUnit.Ignores (l : LinkUnit) (c : Byte) : Prop :=
  l.parser = .discarding ∨ (l.parser = .awaitWord ∧ (c = 13 ∨ c = 10))

section
variable {l : LinkUnit} {c : Byte}

theorem LinkUnit.storeChar_ignored (h : l.Ignores c) : l.storeChar c = l := by
  unfold LinkUnit.storeChar
  rcases h with h | ⟨hp, hc⟩
  · exact if_pos h
  · rw [if_neg (by simp [hp]), if_pos ⟨hp, (isCrLf_iff c).mpr hc⟩]

theorem LinkUnit.storeChar_heeded (h : ¬ l.Ignores c) : l.storeChar c =
    if l.buffer.length < 80 then { l with buffer := l.buffer ++ [c], parser := l.nextParser c }
    else { l with parser := .discarding } := by
  unfold LinkUnit.storeChar
  rw [if_neg (fun hp => h (.inl hp)), if_neg (fun hc => h (.inr ⟨hc.1, (isCrLf_iff c).mp hc.2⟩))]
  rfl

end

theorem exec_uartCharacter {c : Byte} (h : WellFormed (.uartCharacter c) = true) (s : State) :
    exec (.uartCharacter c) s = .next (State.settled { s with link := s.link.storeChar c }) := by
  change finish (s.receive c) = _
  rw [State.receive, terminatorOf_eq_none h]
  rfl

/-- Settles O28: a character ignored, stored, or the 81st of its record. -/
theorem parserTable : Obligations.ParserTable := by
  refine ⟨wellFormed_uartCharacter_iff, fun s c hc => ?_⟩
  intro l letter digit ignored next
  rw [exec_uartCharacter hc]
  have hnext : l.nextParser c = next := l.nextParser_eq c
  refine ⟨fun hi => ?_, fun hi h80 => ?_, fun hi h80 => ?_⟩
  · rw [LinkUnit.storeChar_ignored hi]
  · rw [LinkUnit.storeChar_heeded hi, if_pos h80, hnext]
  · rw [LinkUnit.storeChar_heeded hi, if_neg (by omega)]

/-! ## A terminator (R62, R155, R156) -/

theorem LinkUnit.completes_iff (l : LinkUnit) : l.completes = true ↔
    (l.parser = .inWord ∧ l.buffer.length = 2) ∨ l.parser = .inField ∨ l.parser = .discarding := by
  simp only [LinkUnit.completes, Bool.or_eq_true, LinkUnit.wordComplete_iff, beq_iff_eq, or_assoc]

theorem LinkUnit.discards_iff (l : LinkUnit) :
    l.discards = true ↔ l.parser = .discarding ∨ 80 ≤ l.buffer.length := by
  simp only [LinkUnit.discards, Bool.or_eq_true, beq_iff_eq, decide_eq_true_eq]
  rfl

theorem LinkUnit.refusalWord_eq (l : LinkUnit) : l.refusalWord = match l.buffer with
    | a :: b :: _ => if isLetter a = true ∧ isLetter b = true then [upper a, upper b] else [63, 63]
    | _ => [63, 63] := by
  unfold LinkUnit.refusalWord
  rcases l.buffer with _ | ⟨a, _ | ⟨b, rest⟩⟩
  · rfl
  · rfl
  · exact if_congr (Bool.and_eq_true ..).to_iff rfl rfl

/-- A terminator that completes no record is no part of one: the record is discarded. -/
theorem LinkUnit.storeChar_terminator {l : LinkUnit} (h : ¬ l.completes = true) (d : Terminator) :
    l.storeChar (terminatorChar d) =
      if l.buffer.length < 80 then
        { l with buffer := l.buffer ++ [terminatorChar d], parser := .discarding }
      else { l with parser := .discarding } := by
  obtain ⟨hword, hfield, hdiscard⟩ : ¬ (l.parser = .inWord ∧ l.buffer.length = 2) ∧ l.parser ≠ .inField ∧
      l.parser ≠ .discarding := by
    rw [LinkUnit.completes_iff] at h
    tauto
  have hletter : isLetter (terminatorChar d) = false := by cases d <;> decide
  have hcrlf : ¬ (terminatorChar d = 13 ∨ terminatorChar d = 10) := by cases d <;> decide
  have hnext : l.nextParser (terminatorChar d) = .discarding := by
    rw [LinkUnit.nextParser_eq, hletter, if_neg (by simp), if_neg (by tauto)]
  rw [LinkUnit.storeChar_heeded (not_or_intro hdiscard (fun hc => hcrlf hc.2)), hnext]

section
variable {l : LinkUnit} (d : Terminator)

/-- The link once a record has completed, the record's fate not yet decided. -/
def LinkUnit.emptied (l : LinkUnit) : LinkUnit := { l with buffer := [], parser := .awaitWord }

/-- The refusal of the record in the buffer joins the refusal queue. -/
def LinkUnit.refuseRecord (l : LinkUnit) (code : StatusCode) : LinkUnit :=
  l.emptied.queueRefusal { word := l.refusalWord, code := code, fields := [] }

theorem LinkUnit.completeRecord_discarded (h : l.discards = true) : l.completeRecord d = l.refuseRecord .FM :=
  if_pos h

variable (hd : ¬ l.discards = true)
include hd

theorem LinkUnit.completeRecord_slotFull (hs : l.slot ≠ none) : l.completeRecord d = l.refuseRecord .OV :=
  (if_neg hd).trans (if_pos (Option.isSome_iff_ne_none.mpr hs))

variable (hs : l.slot = none)
include hs

theorem LinkUnit.completeRecord_unknown (hr : readRecord l.buffer = .unknown) :
    l.completeRecord d = l.refuseRecord .UK :=
  (if_neg hd).trans ((if_neg (by simp [hs])).trans (by rw [hr]; rfl))

theorem LinkUnit.completeRecord_malformed (hr : readRecord l.buffer = .malformed) :
    l.completeRecord d = l.refuseRecord .FM :=
  (if_neg hd).trans ((if_neg (by simp [hs])).trans (by rw [hr]; rfl))

theorem LinkUnit.completeRecord_request {r : Request} (hr : readRecord l.buffer = .request r) :
    l.completeRecord d = { l.emptied with slot := some { req := r, disp := d } } :=
  (if_neg hd).trans ((if_neg (by simp [hs])).trans (by rw [hr]; rfl))

end

theorem exec_recordCompletion_early {s : State} (h : ¬ s.link.completes = true) (d : Terminator) :
    exec (.recordCompletion d) s =
      .next (State.settled { s with link := s.link.storeChar (terminatorChar d) }) := by
  change finish (s.receive (terminatorChar d)) = _
  rw [State.receive, terminatorOf_terminatorChar]
  dsimp only
  rw [if_neg h]
  rfl

/-- The record that completes wakes the controller first. -/
theorem exec_recordCompletion_complete {s : State} (h : s.link.completes = true) (d : Terminator) :
    exec (.recordCompletion d) s =
      .next (State.settled
        { s.wake .record with link := (s.wake .record).link.completeRecord d }) := by
  change finish (s.receive (terminatorChar d)) = _
  rw [State.receive, terminatorOf_terminatorChar]
  dsimp only
  rw [if_pos h]
  rfl

/-- A wake touches neither the record received nor the link's slots. -/
theorem State.wake_receiverKept (s : State) (c : WakeCause) : s.link.ReceiverKept (s.wake c).link := by
  unfold State.wake
  split
  · exact ⟨rfl, rfl, rfl, rfl⟩
  · exact s.link.queueReport_receiverKept _

theorem State.wake_slotsKept (s : State) (c : WakeCause) : s.link.SlotsKept (s.wake c).link := by
  unfold State.wake
  split
  · exact .rfl
  · exact s.link.queueReport_slotsKept _

/-- A request that can be taken holds up the transmitter. -/
theorem CanTake.settled {s : State} {r : Request} {d : Terminator} (h : CanTake s r d) : s.settled = s := by
  rcases s.pump_cases with ⟨_, _, hp⟩ | ⟨_, hp⟩
  · exact hp
  · exact hp.trans (by rw [s.link.pump_takeable _ (State.takeable_of_canTake h)])

/-- Settles O29: the early terminator, the five fates of a record in their order, and the wake. -/
theorem recordCompletionFate : Obligations.RecordCompletionFate := by
  intro s d l complete discarded word woken cleared refused
  have hcomplete : l.completes = true ↔ complete := l.completes_iff
  obtain ⟨-, hslot, hparser, hbuffer⟩ := s.wake_receiverKept .record
  obtain ⟨-, hfiling, hbarrier, hreply, -, -⟩ := s.wake_slotsKept .record
  have hdiscards : woken.link.discards = true ↔ discarded := by
    rw [LinkUnit.discards_iff, hparser, hbuffer]
  have hword : woken.link.refusalWord = word := by
    have heq := woken.link.refusalWord_eq
    rw [hbuffer] at heq
    exact heq
  have hrefused : ∀ code, woken.link.refuseRecord code =
      cleared.queueRefusal { word := word, code := code, fields := [] } := fun code => by
    rw [LinkUnit.refuseRecord, hword]
    rfl
  have hexec : complete → ∀ m, woken.link.completeRecord d = m →
      exec (.recordCompletion d) s = .next (State.settled { woken with link := m }) :=
    fun hc m hm => hm ▸ exec_recordCompletion_complete (hcomplete.mpr hc) d
  have hread : ∀ {x}, readRecord l.buffer = x → readRecord woken.link.buffer = x := fun h => hbuffer ▸ h
  refine ⟨fun hc h80 => ?_, fun hc h80 => ?_, fun hc hd => ?_, fun hc hd hs => ?_, fun hc hd hs hr => ?_,
    fun hc hd hs hr => ?_, fun r hc hd hs hr => ?_, fun r hc hd hs hr he hf hb => ?_, s.wake_awake .record,
    fun h => ?_⟩
  · rw [exec_recordCompletion_early (hcomplete.not.mpr hc), LinkUnit.storeChar_terminator (hcomplete.not.mpr hc),
      if_pos h80]
  · rw [exec_recordCompletion_early (hcomplete.not.mpr hc), LinkUnit.storeChar_terminator (hcomplete.not.mpr hc),
      if_neg (by omega)]
  · exact hexec hc _ ((LinkUnit.completeRecord_discarded d (hdiscards.mpr hd)).trans (hrefused _))
  · exact hexec hc _ ((LinkUnit.completeRecord_slotFull d (hdiscards.not.mpr hd) (hslot ▸ hs)).trans (hrefused _))
  · exact hexec hc _ ((LinkUnit.completeRecord_unknown d (hdiscards.not.mpr hd) (hslot.trans hs)
      (hread hr)).trans (hrefused _))
  · exact hexec hc _ ((LinkUnit.completeRecord_malformed d (hdiscards.not.mpr hd) (hslot.trans hs)
      (hread hr)).trans (hrefused _))
  · exact hexec hc _ (LinkUnit.completeRecord_request d (hdiscards.not.mpr hd) (hslot.trans hs) (hread hr))
  · refine (hexec hc _ (LinkUnit.completeRecord_request d (hdiscards.not.mpr hd) (hslot.trans hs)
      (hread hr))).trans ?_
    exact congrArg Host.Outcome.next (CanTake.settled (r := r) (d := d)
      ⟨rfl, hreply.trans he, hfiling.trans hf, hbarrier.trans hb⟩)
  · exact s.wake_dormant .record h

end Sys2Proof.Machine
end

section
/-! The attention lines, the lamps, the receiver's power and the readout (R61, R62, R162, R175, R176). -/

namespace Sys2Proof.Machine

/-! ## The attention lines (R162) -/

section
variable (l : LinkUnit)

theorem LinkUnit.reportsAttention_iff : (l.settings.reportsEnabled && l.reportsWaiting) = true ↔
    (l.settings.attnEnable = 1 ∨ l.settings.attnEnable = 3) ∧ l.reports ≠ [] := by
  simp [Settings.reportsEnabled, LinkUnit.reportsWaiting]

theorem LinkUnit.readyAttention_iff : (l.settings.readyEnabled && l.ready) = true ↔
    (l.settings.attnEnable = 2 ∨ l.settings.attnEnable = 3) ∧ l.slot = none := by
  simp [Settings.readyEnabled, LinkUnit.ready]

theorem LinkUnit.attention_off (h : l.settings.attnMode = 0) : l.attnA = false ∧ l.attnB = false := by
  simp [LinkUnit.attnA, LinkUnit.attnB, h]

theorem LinkUnit.attention_joined (h : l.settings.attnMode = 1) :
    l.attnA = ((l.settings.reportsEnabled && l.reportsWaiting) || (l.settings.readyEnabled && l.ready)) ∧
      l.attnB = false := by
  simp [LinkUnit.attnA, LinkUnit.attnB, h]

theorem LinkUnit.attention_split (h : l.settings.attnMode = 2) :
    l.attnA = (l.settings.reportsEnabled && l.reportsWaiting) ∧
      l.attnB = (l.settings.readyEnabled && l.ready) := by
  simp [LinkUnit.attnA, LinkUnit.attnB, h]

end

/-! ## The readout (R175) -/

/-- The decimal digit of a number's ones. -/
def decimalDigit (n : Nat) : Byte := BitVec.ofNat 8 (48 + n % 10)

/-- The four characters that show a number below 10,000: blanks before its first digit. -/
def shownNumber (n : Nat) : List Byte :=
  [if n < 1000 then asc ' ' else decimalDigit (n / 1000), if n < 100 then asc ' ' else decimalDigit (n / 100),
    if n < 10 then asc ' ' else decimalDigit (n / 10), decimalDigit n]

theorem decimalOnto_small {n : Nat} (h : n < 10) (fuel : Nat) (tail : List Byte) :
    decimalOnto (fuel + 1) n tail = decimalDigit n :: tail := if_pos h

theorem decimalOnto_large {n : Nat} (h : ¬ n < 10) (fuel : Nat) (tail : List Byte) :
    decimalOnto (fuel + 1) n tail = decimalOnto fuel (n / 10) (decimalDigit n :: tail) := if_neg h

/-- A number below 10,000 has the digits of its four places, from the first that counts. -/
theorem decimalOnto_eq {n : Nat} (h : n < 10000) : decimalOnto 4 n [] =
    if n < 10 then [decimalDigit n]
    else if n < 100 then [decimalDigit (n / 10), decimalDigit n]
    else if n < 1000 then [decimalDigit (n / 100), decimalDigit (n / 10), decimalDigit n]
    else [decimalDigit (n / 1000), decimalDigit (n / 100), decimalDigit (n / 10), decimalDigit n] := by
  have h100 : n / 10 / 10 = n / 100 := Nat.div_div_eq_div_mul ..
  have h1000 : n / 100 / 10 = n / 1000 := Nat.div_div_eq_div_mul ..
  split_ifs with h1 h2 h3
  · rw [decimalOnto_small h1]
  · rw [decimalOnto_large h1, decimalOnto_small (by omega)]
  · rw [decimalOnto_large h1, decimalOnto_large (by omega), h100, decimalOnto_small (by omega)]
  · rw [decimalOnto_large h1, decimalOnto_large (by omega), h100, decimalOnto_large (by omega), h1000,
      decimalOnto_small (by omega)]

theorem State.readout_dashes {s : State} (h : s.readoutValue = none) :
    s.readout = [asc '-', asc '-', asc '-', asc '-'] := by
  rw [State.readout, h]
  rfl

theorem State.readout_shown {s : State} {n : Nat} (h : s.readoutValue = some n) (hn : n < 10000) :
    s.readout = shownNumber n := by
  simp only [State.readout, h, decimalOnto_eq hn, shownNumber]
  by_cases h10 : n < 10
  · simp [h10, show n < 100 by omega, show n < 1000 by omega, List.replicate]
  · by_cases h100 : n < 100
    · simp [h10, h100, show n < 1000 by omega, List.replicate]
    · by_cases h1000 : n < 1000 <;> simp [h10, h100, h1000]

/-- The shelves counted by the readout are those of sweep count 0. -/
theorem CountTable.unsweptCount_eq (c : CountTable) : c.unsweptCount =
    ((List.range c.shelfCount).filter (fun t => c.sweepCount (t + 1) = 0)).length := by
  rw [CountTable.unsweptCount, CountTable.shelfNumbers, List.countP_map, List.countP_eq_length_filter]
  rfl

/-- Settles O51: the lines by mode, the lamps and the power, and the readout by its selection. -/
theorem attentionAndReadout : Obligations.AttentionAndReadout := by
  refine ⟨fun l => ?_, fun s => ⟨?_, Iff.rfl, ?_⟩, fun s => ?_⟩
  · intro reports ready
    have hreports : _ ↔ reports := l.reportsAttention_iff
    have hready : _ ↔ ready := l.readyAttention_iff
    refine ⟨l.attention_off, fun h => ?_, fun h => ?_⟩
    · obtain ⟨hA, hB⟩ := l.attention_joined h
      rw [hA, Bool.or_eq_true]
      exact ⟨or_congr hreports hready, hB⟩
    · obtain ⟨hA, hB⟩ := l.attention_split h
      rw [hA, hB]
      exact ⟨hreports, hready⟩
  · unfold State.greenLamp
    cases s.sweep.phase <;> simp
  · simp [ReadPort.receiverPowered]
  · intro digit shown dashes unswept
    have hunswept : s.table.unsweptCount = unswept := s.table.unsweptCount_eq
    refine ⟨fun hr hc => ?_, fun hr hc hn => ?_, fun hr hn => ?_, fun hr hl => ?_, fun t hr hl hn => ?_,
      fun hr he => ?_, fun hr he hn => ?_⟩
    · exact State.readout_dashes (by simp [State.readoutValue, hr, hc])
    · exact State.readout_shown (by simp [State.readoutValue, hr, hc]) hn
    · exact State.readout_shown (by simp [State.readoutValue, hr]) hn
    · exact State.readout_dashes (by simp [State.readoutValue, hr, hl])
    · exact State.readout_shown (by simp [State.readoutValue, hr, hl]) hn
    · exact State.readout_dashes (by simp [State.readoutValue, hr, he])
    · exact State.readout_shown (by simp [State.readoutValue, hr, he, hunswept]) hn

end Sys2Proof.Machine
end

section
/-! Numbers and records as the controller writes them (R154, R158, R159). -/

namespace Sys2Proof.Machine

/-! ## Characters (R154, R155) -/

theorem isDigit_iff (c : Byte) : isDigit c = true ↔ 48 ≤ c.toNat ∧ c.toNat ≤ 57 := by
  simp [isDigit]

theorem isLetter_iff (c : Byte) :
    isLetter c = true ↔ (65 ≤ c.toNat ∧ c.toNat ≤ 90) ∨ (97 ≤ c.toNat ∧ c.toNat ≤ 122) := by
  simp [isLetter]

theorem upper_toNat (c : Byte) :
    (upper c).toNat = if 97 ≤ c.toNat ∧ c.toNat ≤ 122 then c.toNat - 32 else c.toNat := by
  unfold upper
  simp only [Bool.and_eq_true, decide_eq_true_eq]
  split_ifs with h
  · have h32 : (32 : Byte) ≤ c := BitVec.le_def.mpr (by change 32 ≤ c.toNat; omega)
    exact BitVec.toNat_sub_of_le h32
  · rfl

theorem upper_upper (c : Byte) : upper (upper c) = upper c := by
  apply BitVec.eq_of_toNat_eq
  rw [upper_toNat (upper c), upper_toNat c]
  split_ifs <;> omega

theorem hexValue_upper (c : Byte) : hexValue (upper c) = hexValue c := by
  rw [hexValue, hexValue, upper_upper]

theorem hexValue_eq (c : Byte) : hexValue c =
    if 48 ≤ c.toNat ∧ c.toNat ≤ 57 then some (c.toNat - 48)
    else if 65 ≤ c.toNat ∧ c.toNat ≤ 70 then some (c.toNat - 55)
    else if 97 ≤ c.toNat ∧ c.toNat ≤ 102 then some (c.toNat - 87)
    else none := by
  unfold hexValue
  simp only [Bool.and_eq_true, decide_eq_true_eq, upper_toNat]
  grind

/-! ## Reading hexadecimal digits (R154) -/

theorem readHexFrom_append (acc : Nat) (cs ds : List Byte) :
    readHexFrom acc (cs ++ ds) = (readHexFrom acc cs).bind (fun n => readHexFrom n ds) := by
  induction cs generalizing acc with
  | nil => rfl
  | cons c cs ih =>
    cases h : hexValue c with
    | none => simp [readHexFrom, h]
    | some v => simp [readHexFrom, h, ih]

theorem readHexFrom_map_upper (acc : Nat) (cs : List Byte) :
    readHexFrom acc (cs.map upper) = readHexFrom acc cs := by
  induction cs generalizing acc with
  | nil => rfl
  | cons c cs ih => simp only [List.map_cons, readHexFrom, hexValue_upper, ih]

theorem readHexFrom_zeros (k : Nat) : readHexFrom 0 (List.replicate k (asc '0')) = some 0 := by
  induction k with
  | zero => rfl
  | succ k ih => exact ih

/-! ## The digits of a number (R154) -/

theorem hexValue_hexDigit : ∀ d < 16, hexValue (hexDigit d) = some d := by decide

theorem hexDigit_range : ∀ d < 16, (48 ≤ (hexDigit d).toNat ∧ (hexDigit d).toNat ≤ 57) ∨
    (65 ≤ (hexDigit d).toNat ∧ (hexDigit d).toNat ≤ 70) := by decide

theorem hexDigit_ne_zero : ∀ d < 16, d ≠ 0 → hexDigit d ≠ asc '0' := by decide

theorem hexDigitsOnto_append (fuel n : Nat) (tail rest : List Byte) :
    hexDigitsOnto fuel n (tail ++ rest) = hexDigitsOnto fuel n tail ++ rest := by
  induction fuel generalizing n tail with
  | zero => rfl
  | succ fuel ih =>
    unfold hexDigitsOnto
    split_ifs
    · rfl
    · exact ih (n / 16) (hexDigit (n % 16) :: tail)

theorem hexDigitsOnto_large {n : Nat} (h : ¬ n < 16) (fuel : Nat) (tail : List Byte) :
    hexDigitsOnto (fuel + 1) n tail = hexDigitsOnto fuel (n / 16) (hexDigit (n % 16) :: tail) := if_neg h

/-- Fuel enough for the digits of a number writes them all, however much it is. -/
theorem hexDigitsOnto_fuel {f g n : Nat} (hf : n < 16 ^ (f + 1)) (hg : n < 16 ^ (g + 1)) (tail : List Byte) :
    hexDigitsOnto (f + 1) n tail = hexDigitsOnto (g + 1) n tail := by
  induction f generalizing g n tail with
  | zero =>
    have hn : n < 16 := hf
    exact (if_pos hn).trans (if_pos hn).symm
  | succ f ih =>
    by_cases hn : n < 16
    · exact (if_pos hn).trans (if_pos hn).symm
    · cases g with
      | zero => exact absurd hg hn
      | succ g =>
        refine (if_neg hn).trans ((ih ?_ ?_ _).trans (if_neg hn).symm)
        · exact Nat.div_lt_of_lt_mul (by rwa [pow_succ'] at hf)
        · exact Nat.div_lt_of_lt_mul (by rwa [pow_succ'] at hg)

theorem lt_pow_log2_succ (n : Nat) : n < 16 ^ (n.log2 + 1) :=
  Nat.lt_log2_self.trans_le (Nat.pow_le_pow_left (by decide) _)

theorem hexText_small {n : Nat} (h : n < 16) : hexText n = [hexDigit n] := if_pos h

theorem hexText_large {n : Nat} (h : ¬ n < 16) : hexText n = hexText (n / 16) ++ [hexDigit (n % 16)] := by
  have hfuel : n / 16 < 16 ^ (n.log2 + 1) :=
    (Nat.div_le_self n 16).trans_lt (lt_pow_log2_succ n)
  calc hexText n = hexDigitsOnto (n.log2 + 1 + 1) n [] :=
        hexDigitsOnto_fuel (lt_pow_log2_succ n)
          ((lt_pow_log2_succ n).trans_le (Nat.pow_le_pow_right (by decide) (by omega))) []
    _ = hexDigitsOnto (n.log2 + 1) (n / 16) ([] ++ [hexDigit (n % 16)]) :=
        hexDigitsOnto_large h _ []
    _ = hexDigitsOnto (n.log2 + 1) (n / 16) [] ++ [hexDigit (n % 16)] := hexDigitsOnto_append ..
    _ = hexText (n / 16) ++ [hexDigit (n % 16)] := by
        rw [hexDigitsOnto_fuel hfuel (lt_pow_log2_succ (n / 16)), hexText]

/-- What holds of the single digits, and of a text with one more digit, holds of every number's text. -/
theorem hexText_induction {P : Nat → List Byte → Prop} (small : ∀ d < 16, P d [hexDigit d])
    (large : ∀ n, 16 ≤ n → P (n / 16) (hexText (n / 16)) → P n (hexText (n / 16) ++ [hexDigit (n % 16)])) (n : Nat) :
    P n (hexText n) := by
  induction n using Nat.strong_induction_on with
  | _ n ih =>
    by_cases h : n < 16
    · exact hexText_small h ▸ small n h
    · exact hexText_large h ▸ large n (by omega) (ih (n / 16) (by omega))

theorem readHexFrom_hexText (n : Nat) : readHexFrom 0 (hexText n) = some n := by
  refine hexText_induction (P := fun n cs => readHexFrom 0 cs = some n) (fun d hd => ?_) (fun n _ ih => ?_) n
  · simp [readHexFrom, hexValue_hexDigit d hd]
  · simp only [readHexFrom_append, ih, Option.bind_some, readHexFrom, hexValue_hexDigit _ (Nat.mod_lt n (by decide))]
    congr 1
    omega

theorem hexText_head (n : Nat) : n ≠ 0 → ∃ c cs, hexText n = c :: cs ∧ c ≠ asc '0' := by
  refine hexText_induction (P := fun n xs => n ≠ 0 → ∃ c cs, xs = c :: cs ∧ c ≠ asc '0') (fun d hd h0 => ?_)
    (fun n hn ih _ => ?_) n
  · exact ⟨_, _, rfl, hexDigit_ne_zero d hd h0⟩
  · obtain ⟨c, cs, hcs, hc⟩ := ih (by omega)
    exact ⟨c, cs ++ [hexDigit (n % 16)], by rw [hcs, List.cons_append], hc⟩

theorem hexText_digits (n : Nat) :
    ∀ c ∈ hexText n, (48 ≤ c.toNat ∧ c.toNat ≤ 57) ∨ (65 ≤ c.toNat ∧ c.toNat ≤ 70) := by
  refine hexText_induction (P := fun _ cs => ∀ c ∈ cs, (48 ≤ c.toNat ∧ c.toNat ≤ 57) ∨ (65 ≤ c.toNat ∧ c.toNat ≤ 70))
    (fun d hd c hc => ?_) (fun n _ ih c hc => ?_) n
  · exact List.mem_singleton.mp hc ▸ hexDigit_range d hd
  · rcases List.mem_append.mp hc with hc | hc
    · exact ih c hc
    · exact List.mem_singleton.mp hc ▸ hexDigit_range _ (Nat.mod_lt n (by decide))

theorem hexText_length (n : Nat) : ∀ k, n < 16 ^ (k + 1) → (hexText n).length ≤ k + 1 := by
  refine hexText_induction (P := fun n cs => ∀ k, n < 16 ^ (k + 1) → cs.length ≤ k + 1) (fun d _ k _ => ?_)
    (fun n hn ih k hk => ?_) n
  · simp
  · cases k with
    | zero => omega
    | succ k =>
      have hlen := ih k (Nat.div_lt_of_lt_mul (by rwa [pow_succ'] at hk))
      rw [List.length_append, List.length_singleton]
      omega

/-! ## Records on the link (R158, R159) -/

theorem fieldsText_eq (fs : List Field) : fieldsText fs = (fs.map (fun f => asc ',' :: f.text)).flatten :=
  List.flatMap_def ..

theorem Field.flag_eq (b : Bool) : Field.flag b = if b then .num 1 else .num 0 := by cases b <;> rfl

theorem conditionSet_eq (cs : List CondCode) : conditionSet cs =
    (cs.map (fun x => if x = .missingHi then 1 else if x = .misorderHi then 2 else if x = .foreignHi then 4
      else if x = .fillLo then 8 else if x = .rateLo then 16 else 32)).sum := by
  have hbit : (fun c : CondCode => 2 ^ (c.code - 1)) = fun x => if x = .missingHi then 1
      else if x = .misorderHi then 2 else if x = .foreignHi then 4 else if x = .fillLo then 8
      else if x = .rateLo then 16 else 32 := by
    funext c
    cases c <;> rfl
  rw [conditionSet, hbit]

/-- Settles O59: the records, the reports, the codes, the fields, the characters and the numbers. -/
theorem hexadecimalRoundTrip : Obligations.HexadecimalRoundTrip := by
  refine ⟨?_, ?_, ?_, ?_, ⟨by decide, by decide, by decide, fun c => ?_⟩, readHexFrom_hexText, by decide,
    hexText_head, hexText_digits, fun n k => ?_, readHexFrom_map_upper 0, fun n k hn hk => ?_⟩
  · intro text fieldText fieldsText'
    have hfield : Field.text = fieldText := funext (fun f => by cases f <;> rfl)
    have hfields : fieldsText = fieldsText' := funext (fun fs => by rw [fieldsText_eq, hfield])
    refine ⟨fun r => ?_, fun r => ?_, rfl⟩
    · rw [← hfields]
      simp only [Outbound.text, crLf, List.cons_append, List.nil_append, List.append_assoc]
    · rw [← hfields]
      simp only [Outbound.text, crLf, List.cons_append, List.nil_append, List.append_assoc]
  · intro loc locOf value flag writes
    have hflag : Field.flag = flag := funext Field.flag_eq
    have hloc : Field.loc = loc := funext (fun l => by cases l <;> rfl)
    have hlocOf : Field.locOpt = locOf := funext (fun l => by rcases l with _ | _ | _ <;> rfl)
    have hvalue : Field.opt = value := funext (fun x => by cases x <;> rfl)
    rw [← hflag, ← hloc, ← hlocOf, ← hvalue]
    refine ⟨fun r => ⟨rfl, rfl⟩, fun n l a d => ⟨⟨rfl, rfl⟩, ⟨rfl, rfl⟩, ⟨rfl, rfl⟩⟩, fun n totals => ⟨rfl, rfl⟩,
      fun r => ⟨rfl, ?_⟩, fun n w m a b c => ⟨rfl, ?_⟩, ⟨rfl, rfl⟩, ⟨⟨rfl, rfl⟩, ⟨rfl, rfl⟩, ⟨rfl, rfl⟩⟩,
      fun n r code l x p => ⟨rfl, rfl⟩⟩
    · rw [← conditionSet_eq]
      cases hk : r.kind <;> simp [Report.fields, SourceRecord.fields, hk, Field.kind]
    · cases m <;> rfl
  · refine ⟨rfl, rfl, rfl, rfl, rfl, rfl, rfl, rfl, rfl, rfl, fun n x => ⟨CircStatus.code_of_statusOfCode, ?_⟩, rfl⟩
    rintro rfl
    cases x <;> rfl
  · exact ⟨fun _ => rfl, fun _ => rfl, fun _ => rfl, rfl, fun _ => rfl, rfl, fun _ => rfl, fun _ => rfl⟩
  · exact ⟨isDigit_iff c, isLetter_iff c, upper_toNat c, hexValue_eq c⟩
  · rw [readHexFrom_append, readHexFrom_zeros]
    exact readHexFrom_hexText n
  · obtain ⟨k, rfl⟩ := Nat.exists_eq_add_of_le' hk
    exact hexText_length n k hn

end Sys2Proof.Machine
end

section
/-! The reading of request records: the fields cut at the commas, the word of the catalogue, and the fields it spells
(R154 to R156, section 11.6). -/

namespace Sys2Proof.Machine

/-! ## The fields of a record (section 11.2) -/

theorem splitFields_single {f : List Byte} (h : asc ',' ∉ f) : splitFields f = [f] := by
  induction f with
  | nil => rfl
  | cons c cs ih =>
    obtain ⟨hc, hcs⟩ := not_or.mp (List.mem_cons.not.mp h)
    rw [splitFields, if_neg (Ne.symm hc), ih hcs]

theorem splitFields_comma {f : List Byte} (h : asc ',' ∉ f) (rest : List Byte) :
    splitFields (f ++ asc ',' :: rest) = f :: splitFields rest := by
  induction f with
  | nil => exact if_pos rfl
  | cons c cs ih =>
    obtain ⟨hc, hcs⟩ := not_or.mp (List.mem_cons.not.mp h)
    rw [List.cons_append, splitFields, if_neg (Ne.symm hc), ih hcs]

/-- Fields without commas, each introduced by one, are read back as they are. -/
theorem recordFields_flatMap : ∀ {fields : List (List Byte)}, (∀ f ∈ fields, asc ',' ∉ f) →
    recordFields (fields.flatMap (fun f => asc ',' :: f)) = fields
  | [], _ => rfl
  | [f], h => by
    rw [List.flatMap_singleton]
    exact splitFields_single (h f List.mem_cons_self)
  | f :: g :: rest, h => by
    obtain ⟨hf, hrest⟩ := List.forall_mem_cons.mp h
    have ih := recordFields_flatMap hrest
    rw [List.flatMap_cons, List.cons_append] at ih ⊢
    exact (splitFields_comma hf _).trans (congrArg (f :: ·) ih)

theorem recordText_word {word : List Byte} (h : word.length = 2) (fields : List (List Byte)) :
    (recordText word fields).take 2 = word := by
  rw [recordText, ← h, List.take_left]

theorem recordText_fields {word : List Byte} (h : word.length = 2) {fields : List (List Byte)}
    (hf : ∀ f ∈ fields, asc ',' ∉ f) : recordFields ((recordText word fields).drop 2) = fields := by
  rw [recordText, ← h, List.drop_left, recordFields_flatMap hf]

/-! ## The words of the catalogue (section 11.6) -/

theorem mem_catalogue (w : RequestWord) : w ∈ catalogue := by cases w <;> decide

theorem RequestWord.text_injective : Function.Injective RequestWord.text := fun v w h =>
  List.inj_on_of_nodup_map (f := RequestWord.text) (l := catalogue) (by decide) (mem_catalogue v) (mem_catalogue w) h

theorem Request.word_text (r : Request) : r.word.text = r.letters.map asc := by cases r <;> rfl

theorem requestNamed_eq_some {word : List Byte} {w : RequestWord} :
    requestNamed word = some w ↔ word.map upper = w.text := by
  have hfound : ∀ {v}, requestNamed word = some v → word.map upper = v.text := fun h =>
    (beq_iff_eq.mp (List.find?_some (p := fun v : RequestWord => v.text == word.map upper) h)).symm
  refine ⟨hfound, fun h => ?_⟩
  cases hv : requestNamed word with
  | none => exact absurd (beq_iff_eq.mpr h.symm) (List.find?_eq_none.mp hv w (mem_catalogue w))
  | some v => rw [RequestWord.text_injective ((hfound hv).symm.trans h)]

/-! ## The fields read (R154, R156) -/

theorem readFields_nil_iff {fs : List (List Byte)} : readFields [] fs = some [] ↔ fs = [] := by
  cases fs <;> simp [readFields]

section
variable {ks : List FieldSpec} {fs : List (List Byte)} {us : List (Option Nat)}

/-- A required field is present, and is read by its kind. -/
theorem readFields_required_iff {k : FieldSpec} (hk : k.optional = false) {n : Nat} :
    readFields (k :: ks) fs = some (some n :: us) ↔ ∃ f rest, fs = f :: rest ∧
      (f ≠ [] ∧ readField k.kind f = some n) ∧ readFields ks rest = some us := by
  cases fs with
  | nil => simp [readFields, hk]
  | cons f rest =>
    by_cases hf : f = []
    · simp [readFields, hk, hf]
    · cases hn : readField k.kind f <;> simp [readFields, hf, hn, and_comm]

theorem readFields_number_iff {digits n : Nat} :
    readFields (.req digits :: ks) fs = some (some n :: us) ↔ ∃ f rest, fs = f :: rest ∧
      WritesNumber digits n f ∧ readFields ks rest = some us := by
  rw [readFields_required_iff rfl]
  simp only [FieldSpec.req, readField, WritesNumber, Option.ite_none_right_eq_some]

theorem readField_letter_iff {allowed : List Char} {f : List Byte} {n : Nat} :
    readField (.letter allowed) f = some n ↔ ∃ a ∈ allowed, n = (asc a).toNat ∧ WritesLetter a f := by
  rcases f with _ | ⟨x, _ | _⟩
  · simp [readField, WritesLetter]
  · simp only [readField, Option.ite_none_right_eq_some, List.any_eq_true, beq_iff_eq, WritesLetter,
      List.cons.injEq, and_true, exists_eq_left']
    constructor
    · rintro ⟨⟨a, ha, hx⟩, hn⟩
      exact ⟨a, ha, by rw [hx, ← Option.some.inj hn], hx.symm⟩
    · rintro ⟨a, ha, rfl, hx⟩
      exact ⟨⟨a, ha, hx.symm⟩, by rw [hx]⟩
  · simp [readField, WritesLetter]

theorem readFields_letter_iff {allowed : List Char} {n : Nat} :
    readFields (.one allowed :: ks) fs = some (some n :: us) ↔ ∃ f rest, fs = f :: rest ∧
      (∃ a ∈ allowed, n = (asc a).toNat ∧ WritesLetter a f) ∧ readFields ks rest = some us := by
  have hwritten : ∀ f, (f ≠ [] ∧ readField (.letter allowed) f = some n) ↔
      ∃ a ∈ allowed, n = (asc a).toNat ∧ WritesLetter a f := fun f => by
    rw [readField_letter_iff, and_iff_right_iff_imp]
    rintro ⟨a, -, -, x, rfl, -⟩
    exact List.cons_ne_nil _ _
  rw [readFields_required_iff rfl]
  simp only [FieldSpec.one, hwritten]

theorem writeNumbers_cons_iff {x : Nat × Nat} {xs : List (Nat × Nat)} : WriteNumbers (x :: xs) fs ↔
    ∃ f rest, fs = f :: rest ∧ WritesNumber x.1 x.2 f ∧ WriteNumbers xs rest := by
  rw [WriteNumbers, List.forall₂_cons_left_iff]
  exact ⟨fun ⟨f, rest, hf, hrest, heq⟩ => ⟨f, rest, heq, hf, hrest⟩,
    fun ⟨f, rest, heq, hf, hrest⟩ => ⟨f, rest, hf, hrest, heq⟩⟩

theorem writeNumbers_nil_iff : WriteNumbers [] fs ↔ fs = [] := List.forall₂_nil_left_iff

theorem readFields_numbers_iff (xs : List (Nat × Nat)) (fs : List (List Byte)) :
    readFields (xs.map (fun x => .req x.1)) fs = some (xs.map (fun x => some x.2)) ↔ WriteNumbers xs fs := by
  induction xs generalizing fs with
  | nil => exact readFields_nil_iff.trans writeNumbers_nil_iff.symm
  | cons x xs ih => simp only [List.map_cons, readFields_number_iff, ih, writeNumbers_cons_iff]

/-- An optional count that is present is read as a required one. -/
theorem readFields_present_iff {n : Nat} :
    readFields [.opt 4] fs = some [some n] ↔ readFields [.req 4] fs = some [some n] := by
  rcases fs with _ | ⟨f, rest⟩
  · simp [readFields, FieldSpec.opt, FieldSpec.req]
  · by_cases hf : f = [] <;> simp [readFields, FieldSpec.opt, FieldSpec.req, hf]

theorem readFields_count_iff {count : Option Nat} :
    readFields [.opt 4] fs = some [count] ↔ WriteCount count fs := by
  cases count with
  | some n => exact readFields_present_iff.trans (readFields_numbers_iff [(4, n)] fs)
  | none =>
    rcases fs with _ | ⟨f, rest⟩
    · simp [readFields, FieldSpec.opt, WriteCount]
    · by_cases hf : f = []
      · cases rest <;> simp [readFields, FieldSpec.opt, WriteCount, hf]
      · have hread : readFields [.opt 4] (f :: rest) ≠ some [none] := by
          cases hn : readField (.hex 4) f <;> simp [readFields, FieldSpec.opt, hf, hn]
        simp [WriteCount, hf, hread]

end

/-! ## Each request by its word and fields (section 11.6) -/

/-- The values of a request's fields, in their order; a letter is held as the code of its capital. -/
def Request.values : Request → List (Option Nat)
  | .rb bays levels width items => [some bays, some levels, some width, some items]
  | .li rank code shelf status watch => [some rank, some code, some shelf, some status, some watch]
  | .cr force => [some force]
  | .sc shelf => [some shelf]
  | .cn code status => [some code, some status]
  | .qe selector key => [some selector, some key]
  | .qv verdict start count => [some verdict, some start, count]
  | .qh number => [some number]
  | .os target mode => [some target, some mode]
  | .ac condition threshold enable => [some condition, some threshold, some enable]
  | .am combine latch duration => [some combine, some latch, some duration]
  | .em mode watermark => [some mode, some watermark]
  | .er count => [count]
  | .st id value => [some id, some value]
  | .fe count => [count]
  | .ba .engine => [some 69]
  | .ba .all => [some 65]
  | .ts mask => [some mask]
  | .qf start count => [some start, count]
  | .ro | .dr | .es | .as | .dorm | .aq | .cv | .qs | .rs => []

theorem scopeOfLetter_eq_some {n : Nat} {scope : BarrierScope} (h : scopeOfLetter n = some scope) :
    (Request.ba scope).values = [some n] := by
  unfold scopeOfLetter at h
  split_ifs at h with hE hA
  · cases h
    exact hE ▸ rfl
  · cases h
    exact hA ▸ rfl

theorem Request.build_values (r : Request) : buildRequest r.word r.values = some r := by
  cases r with
  | ba scope => cases scope <;> rfl
  | _ => rfl

/-- A request is made of its own word and of the values of its fields, and of no other. -/
theorem buildRequest_eq_some {w : RequestWord} {vs : List (Option Nat)} {r : Request} :
    buildRequest w vs = some r ↔ r.word = w ∧ r.values = vs := by
  constructor
  · intro h
    unfold buildRequest at h
    split at h
    case h_22 =>
      obtain ⟨scope, hscope, rfl⟩ := Option.map_eq_some_iff.mp h
      exact ⟨rfl, scopeOfLetter_eq_some hscope⟩
    all_goals cases h
    all_goals exact ⟨rfl, rfl⟩
  · rintro ⟨rfl, rfl⟩
    exact r.build_values

theorem WritesLetter.map_upper {a : Char} {f : List Byte} (h : WritesLetter a f) : f.map upper = [asc a] := by
  obtain ⟨x, rfl, hx⟩ := h
  exact congrArg (fun y => [y]) hx

section
variable {fs : List (List Byte)}

theorem exists_letter_iff {a b : Char} {f : List Byte} {n : Nat} :
    (∃ c ∈ [a, b], n = (asc c).toNat ∧ WritesLetter c f) ↔
      (n = (asc a).toNat ∧ WritesLetter a f) ∨ (n = (asc b).toNat ∧ WritesLetter b f) := by
  simp

/-- A key of QE is read with the digits its selector gives it. -/
theorem readFields_key_iff {selector key : Nat} :
    readFields (RequestWord.QE.fields (fs.headD [])) fs = some [some selector, some key] ↔
      FieldsSpell fs (.qe selector key) := by
  simp only [RequestWord.fields, readFields_letter_iff, exists_letter_iff]
  constructor
  · rintro ⟨f, rest, rfl, ⟨hs, hf⟩ | ⟨hs, hf⟩, hrest⟩
    · rw [List.headD_cons, hf.map_upper, if_pos rfl, readFields_number_iff] at hrest
      obtain ⟨g, _, rfl, hg, hnil⟩ := hrest
      exact ⟨f, g, by rw [readFields_nil_iff.mp hnil], .inl ⟨hs, hf, hg⟩⟩
    · rw [List.headD_cons, hf.map_upper, if_neg (by decide), readFields_number_iff] at hrest
      obtain ⟨g, _, rfl, hg, hnil⟩ := hrest
      exact ⟨f, g, by rw [readFields_nil_iff.mp hnil], .inr ⟨hs, hf, hg⟩⟩
  · rintro ⟨f, g, rfl, ⟨hs, hf, hg⟩ | ⟨hs, hf, hg⟩⟩
    · refine ⟨f, [g], rfl, .inl ⟨hs, hf⟩, ?_⟩
      rw [List.headD_cons, hf.map_upper, if_pos rfl]
      exact readFields_number_iff.mpr ⟨g, [], rfl, hg, rfl⟩
    · refine ⟨f, [g], rfl, .inr ⟨hs, hf⟩, ?_⟩
      rw [List.headD_cons, hf.map_upper, if_neg (by decide)]
      exact readFields_number_iff.mpr ⟨g, [], rfl, hg, rfl⟩

theorem readFields_mode_iff {target mode : Nat} :
    readFields [.req 2, .one ['N', 'R']] fs = some [some target, some mode] ↔
      FieldsSpell fs (.os target mode) := by
  simp only [readFields_number_iff, readFields_letter_iff, exists_letter_iff, readFields_nil_iff]
  constructor
  · rintro ⟨f, _, rfl, hf, g, _, rfl, hg, rfl⟩
    exact ⟨f, g, rfl, hf, hg⟩
  · rintro ⟨f, g, rfl, hf, hg⟩
    exact ⟨f, [g], rfl, hf, g, [], rfl, hg, rfl⟩

theorem readFields_scope_iff {scope : BarrierScope} :
    readFields [.one ['E', 'A']] fs = some (Request.ba scope).values ↔ FieldsSpell fs (.ba scope) := by
  have hone : ∀ {n : Nat}, readFields [.one ['E', 'A']] fs = some [some n] ↔
      ∃ f, fs = [f] ∧ ((n = (asc 'E').toNat ∧ WritesLetter 'E' f) ∨ (n = (asc 'A').toNat ∧ WritesLetter 'A' f)) := by
    simp only [readFields_letter_iff, exists_letter_iff, readFields_nil_iff]
    exact ⟨fun ⟨f, _, hfs, hf, hnil⟩ => ⟨f, hnil ▸ hfs, hf⟩, fun ⟨f, hfs, hf⟩ => ⟨f, [], hfs, hf, rfl⟩⟩
  cases scope with
  | engine =>
    exact hone.trans (exists_congr (fun f => and_congr_right (fun _ =>
      (or_iff_left (fun h => absurd h.1 (by decide))).trans (and_iff_right rfl))))
  | all =>
    exact hone.trans (exists_congr (fun f => and_congr_right (fun _ =>
      (or_iff_right (fun h => absurd h.1 (by decide))).trans (and_iff_right rfl))))

theorem readFields_verdictPage_iff {verdict start : Nat} {count : Option Nat} :
    readFields [.req 2, .req 3, .opt 4] fs = some [some verdict, some start, count] ↔
      FieldsSpell fs (.qv verdict start count) := by
  simp only [readFields_number_iff, readFields_count_iff]
  constructor
  · rintro ⟨f, _, rfl, hf, g, rest, rfl, hg, hrest⟩
    exact ⟨f, g, rest, rfl, hf, hg, hrest⟩
  · rintro ⟨f, g, rest, rfl, hf, hg, hrest⟩
    exact ⟨f, _, rfl, hf, g, rest, rfl, hg, hrest⟩

theorem readFields_foreignPage_iff {start : Nat} {count : Option Nat} :
    readFields [.req 3, .opt 4] fs = some [some start, count] ↔ FieldsSpell fs (.qf start count) := by
  simp only [readFields_number_iff, readFields_count_iff]
  rfl

/-- The fields of a record are read as the values of a request exactly where they spell it. -/
theorem readFields_values_iff (r : Request) :
    readFields (r.word.fields (fs.headD [])) fs = some r.values ↔ FieldsSpell fs r := by
  cases r with
  | rb bays levels width items => exact readFields_numbers_iff [(2, bays), (2, levels), (3, width), (3, items)] fs
  | li rank code shelf status watch =>
    exact readFields_numbers_iff [(3, rank), (16, code), (2, shelf), (2, status), (2, watch)] fs
  | cr force => exact readFields_numbers_iff [(2, force)] fs
  | sc shelf => exact readFields_numbers_iff [(2, shelf)] fs
  | cn code status => exact readFields_numbers_iff [(16, code), (2, status)] fs
  | qe selector key => exact readFields_key_iff
  | qv verdict start count => exact readFields_verdictPage_iff
  | qh number => exact readFields_numbers_iff [(2, number)] fs
  | os target mode => exact readFields_mode_iff
  | ac condition threshold enable => exact readFields_numbers_iff [(2, condition), (4, threshold), (2, enable)] fs
  | am combine latch duration => exact readFields_numbers_iff [(2, combine), (2, latch), (4, duration)] fs
  | em mode watermark => exact readFields_numbers_iff [(2, mode), (4, watermark)] fs
  | er count | fe count => exact readFields_count_iff
  | st id value => exact readFields_numbers_iff [(2, id), (4, value)] fs
  | ba scope => exact readFields_scope_iff
  | ts mask => exact readFields_numbers_iff [(2, mask)] fs
  | qf start count => exact readFields_foreignPage_iff
  | ro | dr | es | as | dorm | aq | cv | qs | rs => exact readFields_nil_iff

end

/-! ## The record read (R156) -/

theorem readRecord_unknown {text : List Byte} (h : requestNamed (text.take 2) = none) : readRecord text = .unknown := by
  rw [readRecord, h]

section
variable {text : List Byte} {w : RequestWord} (hw : requestNamed (text.take 2) = some w)
include hw

theorem readRecord_request {vs : List (Option Nat)} {r : Request}
    (hvs : readFields (w.fields ((recordFields (text.drop 2)).headD [])) (recordFields (text.drop 2)) = some vs)
    (hr : buildRequest w vs = some r) : readRecord text = .request r := by
  simp only [readRecord, hw, hvs, hr]

theorem readRecord_malformed
    (h : ∀ vs, readFields (w.fields ((recordFields (text.drop 2)).headD [])) (recordFields (text.drop 2)) = some vs →
      buildRequest w vs = none) : readRecord text = .malformed := by
  cases hvs : readFields (w.fields ((recordFields (text.drop 2)).headD [])) (recordFields (text.drop 2)) with
  | none => simp only [readRecord, hw, hvs]
  | some vs => simp only [readRecord, hw, hvs, h vs hvs]

/-- A record whose word is of the catalogue reads as the request its fields spell, or else is malformed. -/
theorem readRecord_named :
    (∃ r, r.word = w ∧ FieldsSpell (recordFields (text.drop 2)) r ∧ readRecord text = .request r) ∨
    ((∀ r, r.word = w → ¬ FieldsSpell (recordFields (text.drop 2)) r) ∧ readRecord text = .malformed) := by
  by_cases h : ∃ r, r.word = w ∧ FieldsSpell (recordFields (text.drop 2)) r
  · obtain ⟨r, rfl, hspell⟩ := h
    have hvs := (readFields_values_iff r).mpr hspell
    exact .inl ⟨r, rfl, hspell, readRecord_request hw hvs r.build_values⟩
  · refine .inr ⟨fun r hr hspell => h ⟨r, hr, hspell⟩, readRecord_malformed hw (fun vs hvs => ?_)⟩
    rw [Option.eq_none_iff_forall_ne_some]
    intro r hr
    obtain ⟨rfl, rfl⟩ := buildRequest_eq_some.mp hr
    exact h ⟨r, rfl, (readFields_values_iff r).mp hvs⟩

end

/-- Fields spell no two requests of one word. -/
theorem FieldsSpell.unique {fs : List (List Byte)} {r r' : Request} (h : FieldsSpell fs r) (h' : FieldsSpell fs r')
    (hw : r.word = r'.word) : r = r' := by
  have hread := (readFields_values_iff r).mpr h
  have hread' := (readFields_values_iff r').mpr h'
  have hvalues : r.values = r'.values := Option.some_inj.mp (hread.symm.trans (hw ▸ hread'))
  have hbuild := r.build_values
  rw [hw, hvalues, r'.build_values] at hbuild
  exact (Option.some_inj.mp hbuild).symm

/-- Settles O60: the record of a word and fields, by the catalogue's words and the fields each spells. -/
theorem requestRecordsAreRead : Obligations.RequestRecordsAreRead := by
  refine ⟨fun word fields hlen hcomma => ?_, Request.word_text, rfl⟩
  intro text words known
  have hword : text.take 2 = word := recordText_word hlen fields
  have hfields : recordFields (text.drop 2) = fields := recordText_fields hlen hcomma
  have hknown : known ↔ ∃ w : RequestWord, word.map upper = w.text := by
    have htexts : words.map (fun w => w.map asc) = catalogue.map RequestWord.text := rfl
    have hmem : word.map upper ∈ words.map (fun w => w.map asc) ↔ word.map upper ∈ catalogue.map RequestWord.text := by
      rw [htexts]
    simp only [List.mem_map, mem_catalogue, true_and] at hmem
    exact ⟨fun ⟨w, hw, h⟩ => (hmem.mp ⟨w, hw, h.symm⟩).imp (fun _ => Eq.symm), fun ⟨w, h⟩ =>
      (hmem.mpr ⟨w, h.symm⟩).imp (fun _ => And.imp_right Eq.symm)⟩
  by_cases hw : ∃ w : RequestWord, word.map upper = w.text
  · obtain ⟨w, hw⟩ := hw
    have hnamed : requestNamed (text.take 2) = some w := by rw [hword, requestNamed_eq_some, hw]
    have hletters : ∀ r : Request, r.word = w ↔ word.map upper = r.letters.map asc := fun r => by
      rw [hw, ← r.word_text, RequestWord.text_injective.eq_iff, eq_comm]
    have hread := readRecord_named hnamed
    simp only [hfields, hletters] at hread
    refine ⟨fun r => ?_, fun _ hno => ?_, fun h => absurd (hknown.mpr ⟨w, hw⟩) h⟩
    · rcases hread with ⟨r', hr', hspell', hr⟩ | ⟨hno, hr⟩
      · rw [hr, ReadRecord.request.injEq]
        refine ⟨fun h => h ▸ ⟨hr', hspell'⟩, fun ⟨hword', hspell⟩ => hspell'.unique hspell ?_⟩
        rw [(hletters r').mpr hr', (hletters r).mpr hword']
      · rw [hr]
        exact ⟨nofun, fun ⟨hword', hspell⟩ => absurd hspell (hno r hword')⟩
    · rcases hread with ⟨r, hr, hspell, -⟩ | ⟨-, hr⟩
      · exact absurd hspell (hno r hr)
      · exact hr
  · have hnone : readRecord text = .unknown := readRecord_unknown (by
      rw [hword, Option.eq_none_iff_forall_ne_some]
      exact fun w h => hw ⟨w, requestNamed_eq_some.mp h⟩)
    refine ⟨fun r => ⟨fun h => ?_, fun h => ?_⟩, fun h => absurd (hknown.mp h) hw, fun _ => hnone⟩
    · rw [hnone] at h
      cases h
    · exact absurd ⟨r.word, h.1.trans r.word_text.symm⟩ hw

end Sys2Proof.Machine
end

section
/-! The wand panel's events: the trigger, CALL, the mode switch and the buzzer (R62, R68, R75, R172 to R174,
R176). -/

namespace Sys2Proof.Machine

/-! ## What a key's wake leaves (R62) -/

section
variable (s : State) (c : WakeCause)

/-- A wake in one equation, with its dormant controller and its awake one. -/
theorem State.wake_eq : s.wake c =
    if s.port.dormancy = .dormant then
      { s with port := { s.port with dormancy := .awake }, link := s.link.queueReport (.wak c) }
    else s := by
  cases hd : s.port.dormancy with
  | awake => exact s.wake_awake c hd
  | dormant => exact s.wake_dormant c hd

@[simp] theorem State.wake_settings : (s.wake c).link.settings = s.link.settings := by
  unfold State.wake
  split
  · rfl
  · exact s.link.queueReport_settings _

/-- A WAK is no CAL: it leaves the CALL pending mark as it was, at a full queue too (R159). -/
@[simp] theorem State.wake_callPending : (s.wake c).link.callPending = s.link.callPending := by
  unfold State.wake
  split
  · rfl
  · by_cases hroom : s.link.reports.length < Config.reportQueueSize
    · rw [State.report_link, LinkUnit.queueReport_room _ _ hroom]
      exact Bool.or_false _
    · rw [State.report_link, LinkUnit.queueReport_full _ _ hroom]

end

/-! ## The trigger (R68, R75, R173) -/

section
variable {s : State}

theorem State.openAttempt_ready
    (h : s.table.run = .opened ∧ 1 ≤ s.table.cursor ∧ s.table.cursor ≤ s.table.shelfCount) :
    s.openAttempt = s.openSweep (.shelf s.table.cursor)
      (if s.table.sweepCount s.table.cursor = 0 then .new else .recount) := by
  unfold State.openAttempt
  exact if_pos (h.imp_right CountTable.isShelf_iff.mpr)

theorem State.openAttempt_unready
    (h : ¬ (s.table.run = .opened ∧ 1 ≤ s.table.cursor ∧ s.table.cursor ≤ s.table.shelfCount)) :
    s.openAttempt = s.buzz .twoShort := by
  unfold State.openAttempt
  exact if_neg (fun hready => h (hready.imp_right CountTable.isShelf_iff.mp))

theorem State.pressTrigger_idle (hs : s.panel.switch = .localMode) (hp : s.sweep.phase = .idle) :
    s.pressTrigger = s.openAttempt := by
  simp only [State.pressTrigger, hs, hp]

theorem State.pressTrigger_opened (hs : s.panel.switch = .localMode) (hp : s.sweep.phase = .opened) :
    s.pressTrigger = s.endSweep := by
  simp only [State.pressTrigger, hs, hp]

/-- In CLOSING, and with the switch in REMOTE, the trigger acts on no sweep. -/
theorem State.pressTrigger_beeps
    (h : s.panel.switch = .localMode → s.sweep.phase ≠ .idle ∧ s.sweep.phase ≠ .opened) :
    s.pressTrigger = s.buzz .twoShort := by
  unfold State.pressTrigger
  split
  next hs hp => exact absurd hp (h hs).1
  next hs hp => exact absurd hp (h hs).2
  · rfl

/-- The press acts on the controller that the wake leaves. -/
theorem exec_triggerPress : exec .triggerPress s = .next (s.wake .trigger).pressTrigger.settled := rfl

end

/-- Settles O49: the press acts on the awakened controller, whose switch, sweep, run and cursor are those of the
state before. -/
theorem triggerPressActs : Obligations.TriggerPressActs := by
  intro s w cursor ready mode beeps ended
  have hw : s.wake .trigger = w := s.wake_eq .trigger
  have hswitch : (s.wake .trigger).panel.switch = s.panel.switch := by rw [State.wake_panel]
  have hphase : (s.wake .trigger).sweep.phase = s.sweep.phase := by rw [State.wake_sweep]
  have hbeeps (h : (s.wake .trigger).pressTrigger = (s.wake .trigger).buzz .twoShort) :
      exec .triggerPress s = .next beeps.settled := by
    rw [exec_triggerPress, h, State.buzz, State.wake_panel, hw]
  refine ⟨fun hs hp hr => ?_, fun hs hp hr => hbeeps ?_, fun hs hp => ?_, fun hs hi ho => hbeeps ?_,
    fun hs => hbeeps ?_⟩
  · rw [exec_triggerPress, State.pressTrigger_idle (hswitch.trans hs) (hphase.trans hp),
      State.openAttempt_ready (by rwa [State.wake_table]), State.wake_table, hw]
  · rw [State.pressTrigger_idle (hswitch.trans hs) (hphase.trans hp),
      State.openAttempt_unready (by rwa [State.wake_table])]
  · rw [exec_triggerPress, State.pressTrigger_opened (hswitch.trans hs) (hphase.trans hp), State.endSweep,
      State.wake_sweep, State.wake_settings, hw]
  · exact State.pressTrigger_beeps (fun _ => ⟨hphase ▸ hi, hphase ▸ ho⟩)
  · exact State.pressTrigger_beeps (fun hl => by rw [hswitch, hs] at hl; cases hl)

/-! ## CALL (R174) -/

section
variable {s : State}

theorem State.pressCall_pending (h : s.link.callPending = true) : s.pressCall = s := if_pos h

theorem State.pressCall_clear (h : s.link.callPending = false) : s.pressCall = s.report .cal :=
  if_neg (Bool.eq_false_iff.mp h)

theorem exec_callPress : exec .callPress s = .next (s.wake .call).pressCall.settled := rfl

end

/-! ## The buzzer (R176) -/

section
variable {s : State} {p : Panel}

theorem exec_buzzerPatternEnd {x : Pattern} (h : s.panel.sounding = some x) :
    exec .buzzerPatternEnd s = .next (State.settled { s with
      panel := { s.panel with sounding := s.panel.waiting.head?, waiting := s.panel.waiting.tail } }) := by
  change execBuzzerPatternEnd s = _
  unfold execBuzzerPatternEnd
  rw [h]
  rfl

theorem Panel.buzz_silent (h : p.sounding = none) (x : Pattern) : p.buzz x = { p with sounding := some x } := by
  simp only [Panel.buzz, h]

/-- While a pattern sounds, the one requested waits where the list has room. -/
theorem Panel.buzz_sounding (h : p.sounding ≠ none) (x : Pattern) : p.buzz x =
    if p.waiting.length < Config.buzzerListSize then { p with waiting := p.waiting ++ [x] } else p := by
  obtain ⟨y, hy⟩ := Option.ne_none_iff_exists'.mp h
  simp only [Panel.buzz, hy]

end

/-- Settles O50: the CALL press by the pending mark, which the wake leaves alone, the switch, and the buzzer by
its waiting list. -/
theorem callSwitchAndBuzzer : Obligations.CallSwitchAndBuzzer := by
  refine ⟨fun s => ?_, fun s p => rfl, fun s x hx => ⟨fun hnone => ?_, fun y rest hwait => ?_⟩, fun p x =>
    ⟨fun h => Panel.buzz_silent h x, fun h hroom => ?_, fun h hfull => ?_⟩⟩
  · intro w
    have hw : s.wake .call = w := s.wake_eq .call
    have hmark : w.link.callPending = s.link.callPending := hw ▸ s.wake_callPending .call
    rw [exec_callPress, hw]
    refine ⟨fun h => ?_, fun h => ?_⟩
    · rw [State.pressCall_pending (hmark.trans h)]
    · rw [State.pressCall_clear (hmark.trans h), State.report]
  · rw [exec_buzzerPatternEnd hx, hnone]
    simp only [List.head?_nil, List.tail_nil, hnone]
  · rw [exec_buzzerPatternEnd hx, hwait, List.head?_cons, List.tail_cons]
  · exact (Panel.buzz_sounding h x).trans (if_pos hroom)
  · exact (Panel.buzz_sounding h x).trans (if_neg (Nat.not_lt.mpr hfull))

end Sys2Proof.Machine
end

section
/-! The queue of waiting commands: what a step takes from it, and that a command leaves it alone. -/

namespace Sys2Proof.Machine

/-! ## The step (entry 1) -/

/-- Nothing waits: the controller idles. -/
theorem step_idle {s : State} (h : s.pending = []) : step s = .next s := by
  unfold step
  rw [h]

theorem step_front (c : Instr) (rest : List Instr) (s : State) :
    step { s with pending := c :: rest } = exec c { s with pending := rest } := rfl

/-- Settles O1, by the two cases of the queue. -/
theorem stepRunsTheFrontCommand : Obligations.StepRunsTheFrontCommand :=
  ⟨step_front, fun _ => step_idle⟩

/-! ## What the operations leave of the queue -/

section
variable (s : State)

@[simp] theorem State.openSweep_pending (target : Loc) (mode : SweepMode) :
    (s.openSweep target mode).pending = s.pending := rfl

@[simp] theorem State.acknowledge_pending : s.acknowledge.pending = s.pending := by
  unfold State.acknowledge
  split <;> rfl

@[simp] theorem State.softReset_pending : s.softReset.pending = s.pending := by
  unfold State.softReset
  dsimp only
  split <;> rfl

@[simp] theorem State.receive_pending (c : Byte) : (s.receive c).pending = s.pending := by
  unfold State.receive
  repeat' split
  · exact s.wake_pending .record
  all_goals rfl

@[simp] theorem State.arriveRead_pending (r : DeliveredRead) : (s.arriveRead r).pending = s.pending := by
  unfold State.arriveRead State.acceptRead
  repeat' split
  all_goals simp

@[simp] theorem State.moveCounter_pending (d : Direction) (target : Loc) :
    (s.moveCounter d target).pending = s.pending := by
  unfold State.moveCounter State.deliverCount
  dsimp only
  repeat' split
  all_goals simp

@[simp] theorem State.pressTrigger_pending : s.pressTrigger.pending = s.pending := by
  unfold State.pressTrigger State.openAttempt
  repeat' split
  all_goals rfl

/-- A press of CALL queues a report at most, never a command. -/
@[simp] theorem State.pressCall_keepsQueue : s.pressCall.pending = s.pending := by
  unfold State.pressCall
  split <;> rfl

@[simp] theorem State.foldRead_pending (r : StampedRead) : (s.foldRead r).pending = s.pending := by
  unfold State.foldRead
  dsimp only
  repeat' split
  all_goals rfl

@[simp] theorem State.handOff_pending (target : Loc) (mode : SweepMode) (bleed : Nat) :
    (s.handOff target mode bleed).pending = s.pending :=
  State.evaluate_pending _ _ _ _ _

@[simp] theorem State.completeShelfJob_pending : s.completeShelfJob.pending = s.pending := by
  rw [State.completeShelfJob_eq]
  split
  · exact s.shelfJobDone.completeOrder_pending
  · rfl

end

/-! ## What a command leaves of the queue -/

section
variable {s t u : State}

theorem Frees.pending_eq (hf : Frees s u) : u.pending = s.pending := by
  cases hf <;> rfl

theorem Performs.pending_eq (ha : Performs s u) : u.pending = s.pending := by
  cases ha with
  | acknowledge => exact s.acknowledge_pending
  | softReset => exact s.softReset_pending
  | _ => rfl

theorem Effect.pending_eq (he : Effect s u) : u.pending = s.pending := by
  cases he with
  | replied _ w code fields hf => exact hf.pending_eq
  | performed _ _ hf ha => exact ha.pending_eq.trans hf.pending_eq
  | performedReplied _ _ w fields hf ha => exact ha.pending_eq.trans hf.pending_eq
  | filing | barrierWaits | fetch | transmissionEnd | looseCount | switch | patternEnd | idleExpiry | runJob => rfl
  | character c => exact s.receive_pending c
  | read r => exact s.arriveRead_pending r
  | shelfCount d t => exact s.moveCounter_pending d (.shelf t)
  | trigger => exact (State.pressTrigger_pending _).trans (s.wake_pending .trigger)
  | call => exact (State.pressCall_keepsQueue _).trans (s.wake_pending .call)
  | fold r rest => exact State.foldRead_pending _ r
  | handOff target mode bleed => exact s.handOff_pending target mode bleed
  | commit c => exact s.commitEvent_pending c
  | shelfJob => exact s.completeShelfJob_pending

/-- Whatever a command answers, the supply included, the queue is that of the state before. -/
theorem Answers.pending_eq (h : Answers s t) : t.pending = s.pending := by
  rcases h with rfl | ⟨strap, switch, rfl⟩ | ⟨u, he, rfl⟩
  · rfl
  · rfl
  · exact u.pump_pending.trans he.pending_eq

end

/-! ## A command always answers a next state -/

/-- Taken, not of this owner, or absent: a request ends in a next state. -/
theorem takeRequest_next (decide : Request → State → Option Decision) (s : State) :
    ∃ t, takeRequest decide s = .next t := by
  unfold takeRequest
  split
  · exact ⟨_, rfl⟩
  · split <;> exact ⟨_, rfl⟩

/-- The commands of requests by `takeRequest`; the other commands by the branches of their own meaning, each of
which ends an event or leaves the state as it is. -/
theorem exec_next (c : Instr) (s : State) : ∃ t, exec c s = .next t := by
  cases c with
  | powerOn | recordCompletion | uartCharacter | triggerPress | callPress | modeSwitchChange => exact ⟨_, rfl⟩
  | runBegin | runClose | runReopen | discardRun | cursorSet | circulationNotice | entryQuery | verdictQuery
  | locationQuery | openRequest | endRequest | abandonRequest | dormancyRequest | conditionRequest | modeRequest
  | acknowledgeRequest | evidenceModeRequest | evidenceReadRequest | stStrengthFloor | stBleedRatio
  | stOrderTolerance | stIdleLimit | stAttentionMode | stAttentionEnables | stStreaming | stReadoutSelection
  | testRequest | coverageRequest | statusRequest | foreignListQuery | softReset =>
    dsimp only [exec]
    exact takeRequest_next _ s
  | listItem | listItemFilingCompletion | fetchRequest | barrierRequest | barrierCompletion | tagRead | encoderCount
  | idleExpiry | readFold | handOff | commit | shelfJobCompletion | runWideJobCompletion | transmissionEnd
  | buzzerPatternEnd =>
    dsimp only [exec, execListItem, execListItemFilingCompletion, execFetchRequest, execBarrierRequest,
      execBarrierCompletion, execTagRead, execEncoderCount, execIdleExpiry, execReadFold, execHandOff, execCommit,
      execShelfJobCompletion, execRunWideJobCompletion, execTransmissionEnd, execBuzzerPatternEnd]
    repeat' split
    all_goals exact ⟨_, rfl⟩

/-- Settles O2: a next state there always is, and it is one of the answers a command can give. -/
theorem everyCommandAnswersANextState : Obligations.EveryCommandAnswersANextState := by
  intro c s
  obtain ⟨t, ht⟩ := exec_next c s
  exact ⟨t, ht, (exec_answers ht).pending_eq⟩

end Sys2Proof.Machine
end
